-- ==== Sys2Proof/Word.lean ====
section
/-! DEFINITION. The two word types of the engine: the 32-bit word of every port transfer (R5 `WORD`, R51) and the
byte of the byte sequences (00_scope.md section 5). -/

namespace Sys2Proof

/-- A 32-bit word: a register, a port transfer, a command word, a SHA-1 word. -/
abbrev Word := BitVec 32

/-- An element of a byte sequence. -/
abbrev Byte := BitVec 8

end Sys2Proof
end

