-- ==== Sys2Proof/Config.lean ====
section
/-! DEFINITION. The parameters of R5: the constants the spec fixes, and the one value it leaves to the platform. -/

namespace Sys2Proof

/-- `KEY_MAX`: capacity of the key buffer in bytes (R5, D6). -/
abbrev Config.keyMax : Nat := 128

/-- `HASH_BLOCK`: SHA-1 block length in bytes (R5). -/
abbrev Config.hashBlock : Nat := 64

/-- `DIGEST_BYTES`: length of the HMAC output in bytes (R5). -/
abbrev Config.digestBytes : Nat := 20

/-- `DIGITS_MAX`: the largest number the four-bit DIGITS field holds (R5, R82). -/
abbrev Config.digitsMax : Nat := 15

/-- `CODE_BYTES`: size of the code buffer in bytes (R5). -/
abbrev Config.codeBytes : Nat := 16

/-- `REG_BASE`: the byte address of index 0 on a platform bus (R5, R64), left to the platform and therefore open here:
nothing can be proved about its value. Log entry 9. -/
opaque Config.regBase : Nat

end Sys2Proof
end

