-- ==== Sys2Proof/Syntax.lean ====
section
/-! DEFINITION. The five commands of spec/opcode_table.json (R83), one constructor per row. -/

namespace Sys2Proof

/-- A legal command (R83). DIGITS is the only immediate; it is the four-bit field 11:8 of the command word, taken
unsigned (R82), so a term of this type is exactly one of the 35 legal command words. -/
inductive Instr where
  /-- HMAC, opcode 1 (R112). -/
  | hmac
  /-- DT, opcode 2 (R134). -/
  | dt
  /-- FMT, opcode 3, with DIGITS (R145). -/
  | fmt (digits : BitVec 4)
  /-- GEN, opcode 4, with DIGITS (R160). -/
  | gen (digits : BitVec 4)
  /-- ZERO, opcode 5 (R163). -/
  | zero
deriving DecidableEq, Repr

/-- The OP field of a command (R83). -/
def Instr.opcode : Instr → BitVec 4
  | .hmac => 1
  | .dt => 2
  | .fmt _ => 3
  | .gen _ => 4
  | .zero => 5

/-- The DIGITS field of a command: 0 for HMAC, DT and ZERO (R81). -/
def Instr.digitsField : Instr → BitVec 4
  | .hmac => 0
  | .dt => 0
  | .fmt d => d
  | .gen d => d
  | .zero => 0

end Sys2Proof
end

