-- ==== Sys2Proof/HostLine.lean ====
section
/-! DEFINITION. The spec's notation for host programs (R91, R92) as data. The notation is text with decimal numbers, so
its numbers are naturals; WellFormed.lean says which lines are well formed, Machine/HostProgram.lean expands them. -/

namespace Sys2Proof

/-- A register name of R52, with `CODE[j]`, `DIGEST[j]`, `KEY[j]` indexed, or a bare index as in `WR 0x00, v`. -/
inductive RegName where
  | cmd | status | keyLen | mfHi | mfLo | offset | trunc | bin | codeLen
  | code (j : Nat)
  | digest (j : Nat)
  | key (j : Nat)
  | raw (index : Nat)
deriving DecidableEq, Repr

/-- One line of a host program: the mnemonics of R91 and the pseudo-instructions of R92. -/
inductive Line where
  /-- `WR name, value`. -/
  | wr (r : RegName) (v : Word)
  /-- `RD name`. -/
  | rd (r : RegName)
  /-- `CMD HMAC`. -/
  | cmdHmac
  /-- `CMD DT`. -/
  | cmdDt
  /-- `CMD FMT, d`. -/
  | cmdFmt (d : Nat)
  /-- `CMD GEN, d`. -/
  | cmdGen (d : Nat)
  /-- `CMD ZERO`. -/
  | cmdZero
  /-- `CMD RAW, w`. -/
  | cmdRaw (w : Word)
  /-- `WAIT`, with the number of times the host happens to read STATUS before the completion step. -/
  | wait (polls : Nat)
  /-- `LOADKEY b0 b1 ... b(n-1)`. -/
  | loadKey (bytes : List Byte)
  /-- `LOADMF m`. -/
  | loadMf (m : BitVec 64)
deriving DecidableEq, Repr

end Sys2Proof
end

