-- ==== Sys2Proof/WellFormed.lean ====
section
/-! DEFINITION. What is well formed. A command (`Instr`) needs no check: its DIGITS is a four-bit field by type, so a term
that format C cannot encode cannot be written. The checks are those of the host notation, whose numbers are free:
register subscripts and indices (R52), `d` in 0..15 (R91; R82 "Values above 15 cannot be encoded"), 1 to 128 key bytes
(R92). -/

namespace Sys2Proof

/-- The subscripts of R52: `CODE[0..3]`, `DIGEST[0..4]`, `KEY[0..31]`; an index is 6 bits (R50). -/
def RegName.wellFormed : RegName → Bool
  | .code j => decide (j < 4)
  | .digest j => decide (j < 5)
  | .key j => decide (j < 32)
  | .raw a => decide (a < 64)
  | .cmd | .status | .keyLen | .mfHi | .mfLo | .offset | .trunc | .bin | .codeLen => true

/-- A line the notation admits (R91, R92). -/
def Line.wellFormed : Line → Bool
  | .wr r _ => r.wellFormed
  | .rd r => r.wellFormed
  | .cmdFmt d => decide (d ≤ Config.digitsMax)
  | .cmdGen d => decide (d ≤ Config.digitsMax)
  | .loadKey bs => decide (1 ≤ bs.length ∧ bs.length ≤ Config.keyMax)
  | .cmdHmac | .cmdDt | .cmdZero | .cmdRaw _ | .wait _ | .loadMf _ => true

end Sys2Proof
end

