-- ==== Sys2Proof/Decode.lean ====
section
/-! DEFINITION. Command words: the fields of format C (R81), the total decode function (R85), which rejects every other
word under a name, the opcode table (R83), and the encoder (R86), written from the same fields. -/

namespace Sys2Proof

/-- OP, bits 3:0 (R81). -/
def opField (w : Word) : BitVec 4 := w.extractLsb' 0 4

/-- RSV0, bits 7:4, reserved, must be 0 (R81). -/
def rsv0Field (w : Word) : BitVec 4 := w.extractLsb' 4 4

/-- DIGITS, bits 11:8 (R81, R82). -/
def digitsField (w : Word) : BitVec 4 := w.extractLsb' 8 4

/-- RSV1, bits 31:12, reserved, must be 0 (R81). -/
def rsv1Field (w : Word) : BitVec 20 := w.extractLsb' 12 20

/-- Why a word is an illegal command (R84). The three names are the model's own (log entry 15): each
is E_ILLEGAL_CMD. -/
inductive Illegal where
  /-- a non-zero RSV0 or RSV1 bit -/
  | reservedBits
  /-- OP is 0x0 or in 0x6..0xF -/
  | reservedOpcode
  /-- HMAC, DT or ZERO with DIGITS not 0 -/
  | digitsNotZero
deriving DecidableEq, Repr

/-- What a word decodes to: a command, or ILLEGAL with the reason (R85). -/
inductive Decoded where
  | legal (i : Instr)
  | illegal (why : Illegal)
deriving DecidableEq, Repr

/-- A command that takes no immediate: legal only with DIGITS = 0 (R85). -/
def withoutDigits (d : BitVec 4) (i : Instr) : Decoded :=
  if d = 0 then .legal i else .illegal .digitsNotZero

/-- `Decode(w)` of R85, total on all 32-bit words. -/
def decode (w : Word) : Decoded :=
  if rsv1Field w ≠ 0 ∨ rsv0Field w ≠ 0 then .illegal .reservedBits
  else match (opField w).toNat with
    | 0x1 => withoutDigits (digitsField w) .hmac
    | 0x2 => withoutDigits (digitsField w) .dt
    | 0x3 => .legal (.fmt (digitsField w))
    | 0x4 => .legal (.gen (digitsField w))
    | 0x5 => withoutDigits (digitsField w) .zero
    | _ => .illegal .reservedOpcode

/-- The command of a decoded word, none where it is ILLEGAL. -/
def Decoded.instr? : Decoded → Option Instr
  | .legal i => some i
  | .illegal _ => none

/-- A word of format C with zero reserved fields (R81): RSV1, DIGITS, RSV0, OP from bit 31 down. -/
def formatC (digits op : BitVec 4) : Word := 0#20 ++ digits ++ 0#4 ++ op

/-- `Encode(c)` of R86. -/
def encode (i : Instr) : Word := formatC i.digitsField i.opcode

/-- One row of the opcode map of R83: a word encodes the command when `w & mask = match`. -/
structure OpcodeRow where
  mnemonic : String
  matchBits : Word
  maskBits : Word
  /-- the command the row stands for, given the DIGITS field of the word -/
  instr : BitVec 4 → Instr

/-- The opcode map of R83. -/
def opcodeRows : List OpcodeRow :=
  [ ⟨"HMAC", 0x00000001, 0xFFFFFFFF, fun _ => .hmac⟩,
    ⟨"DT", 0x00000002, 0xFFFFFFFF, fun _ => .dt⟩,
    ⟨"FMT", 0x00000003, 0xFFFFF0FF, fun d => .fmt d⟩,
    ⟨"GEN", 0x00000004, 0xFFFFF0FF, fun d => .gen d⟩,
    ⟨"ZERO", 0x00000005, 0xFFFFFFFF, fun _ => .zero⟩ ]

/-- Whether a word is encoded by a row (R83). -/
def OpcodeRow.fits (r : OpcodeRow) (w : Word) : Bool := w &&& r.maskBits == r.matchBits

/-- The 35 legal command words of R83: three without digits, and one per value of DIGITS for FMT and GEN. -/
def legalWords : List Word :=
  [0x00000001, 0x00000002, 0x00000005]
    ++ (List.range 16).map (fun d => BitVec.ofNat 32 (0x3 + 256 * d))
    ++ (List.range 16).map (fun d => BitVec.ofNat 32 (0x4 + 256 * d))

/-- The host's reading of a table word: `nbits` bits with value `w`, the bits above them zero, read by `decode`. A command
is one 32-bit word (R80), so nothing wider is one. -/
def decodeTableWord (nbits w : Nat) : Option Instr :=
  if 32 < nbits then none else (decode (BitVec.ofNat 32 (w % 2 ^ nbits))).instr?

end Sys2Proof
end

