-- ==== Sys2Proof/Machine/Action.lean ====
section
/-! DEFINITION. The actions of the three agents of R20. -/

namespace Sys2Proof.Machine

/-- A port transaction; the port carries these two kinds and no other (R51). The index is 6 bits (R50). -/
inductive Transaction where
  | regRead (a : BitVec 6)
  | regWrite (a : BitVec 6) (v : Word)
deriving DecidableEq, Repr

/-- One atomic action of an agent (R20, R60). -/
inductive Action where
  /-- HOST: a port transaction. Several hosts are serialised by the port (R65), so who sent it is not kept. -/
  | host (t : Transaction)
  /-- ENGINE: its turn to take the completion step, if one is enabled (R89). -/
  | engine
  /-- RESET: the reset action (R200). -/
  | reset
deriving DecidableEq, Repr

end Sys2Proof.Machine
end

