-- ==== Sys2Proof/Machine/State.lean ====
section
/-! DEFINITION. The state of one engine: every piece of state of R21 and R33 under its own name, and two fields of the
model's own, the order in which the agents act (`pending`, log entry 1) and what the host has read (`replies`, log entry
4). Plain data. -/

namespace Sys2Proof.Machine

/-- The state. Every architectural field is named as in R21. -/
@[ext]
structure State where
  /-- KEY[0..31], the 128 key bytes, four per word; write-only at the port (R22) -/
  key : Vector Word 32
  /-- KEYLEN, the number of key bytes in use (R23) -/
  keyLen : BitVec 8
  /-- MF_HI, moving factor bits 63:32 (R24) -/
  mfHi : Word
  /-- MF_LO, moving factor bits 31:0 (R24) -/
  mfLo : Word
  /-- DIGEST[0..4] (R25) -/
  digest : Vector Word 5
  /-- OFFSET (R26) -/
  offset : BitVec 4
  /-- TRUNC (R27) -/
  trunc : BitVec 31
  /-- BIN (R28) -/
  bin : BitVec 31
  /-- CODELEN (R29) -/
  codeLen : BitVec 4
  /-- CODE[0..3], the 16 code bytes (R30) -/
  code : Vector Word 4
  /-- STATUS.BUSY (R31) -/
  busy : Bool
  /-- STATUS.DONE (R31) -/
  done : Bool
  /-- STATUS.ERR (R31) -/
  err : Bool
  /-- STATUS.DV, DIGEST holds a digest (R31) -/
  dv : Bool
  /-- STATUS.TV, OFFSET and TRUNC hold a truncation (R31) -/
  tv : Bool
  /-- STATUS.CV, BIN, CODELEN and CODE hold a formatting (R31) -/
  cv : Bool
  /-- STATUS.ERRCODE (R31, R181) -/
  errCode : BitVec 4
  /-- CUR_OP, hidden: the opcode in progress (R33) -/
  curOp : BitVec 4
  /-- CUR_DIGITS, hidden: the DIGITS in progress (R33) -/
  curDigits : BitVec 4
  /-- The model's own: the actions still to come, oldest first. No rule reads it but the order of actions. Log entry 1. -/
  pending : List Action
  /-- The model's own: the values host reads have returned so far, oldest first. Nothing reads it. Log entry 4. -/
  replies : List Word
deriving DecidableEq, Repr

/-- The state after the reset action: every piece of state of R21 is zero (R39, R201). The model's own two fields are
empty (log entries 1 and 4). -/
def State.reset : State where
  key := Vector.replicate 32 0
  keyLen := 0
  mfHi := 0
  mfLo := 0
  digest := Vector.replicate 5 0
  offset := 0
  trunc := 0
  bin := 0
  codeLen := 0
  code := Vector.replicate 4 0
  busy := false
  done := false
  err := false
  dv := false
  tv := false
  cv := false
  errCode := 0
  curOp := 0
  curDigits := 0
  pending := []
  replies := []

/-- The reasons a step can stop with a fault: there are none. R224: "Stuck: does not exist; in every state every host
transaction and reset are enabled"; R192: "A model's completion step therefore has no failing branch". Nobody raises one,
which is safe. The rejection of a command is no fault of the step but a next state (R188). -/
inductive Fault where
deriving DecidableEq, Repr

/-- The reasons a step can refuse. R224: "Refused: does not exist inside the engine". -/
inductive Refusal where
  /-- Raised by exec for an instruction that has no meaning yet; no arm of exec does. Safe. -/
  | notModelled (mnemonic : String)
deriving DecidableEq, Repr

/-- The five causes for which a command is rejected (R181; U12: "a model's error type has exactly five constructors"). -/
inductive ErrCode where
  /-- E_ILLEGAL_CMD (R182) -/
  | illegalCmd
  /-- E_KEY_EMPTY (R183) -/
  | keyEmpty
  /-- E_KEY_LEN (R184) -/
  | keyLen
  /-- E_SEQ (R185) -/
  | seq
  /-- E_DIGITS (R186) -/
  | digits
deriving DecidableEq, Repr

end Sys2Proof.Machine
end

