-- ==== Sys2Proof/Machine/Operands.lean ====
section
/-! DEFINITION. Words and byte sequences (00_scope.md section 5, R57), and the operand forms of the commands: the key
bytes (R110), the moving-factor bytes (R111), the digest bytes (R133). -/

namespace Sys2Proof.Machine

/-- The four bytes of a word, most significant first: `bytes_be(w, 4)` (00_scope.md section 5). -/
def wordBytes (w : Word) : List Byte :=
  [w.extractLsb' 24 8, w.extractLsb' 16 8, w.extractLsb' 8 8, w.extractLsb' 0 8]

/-- `bytes_be(v, n)`: the n-byte big-endian sequence of a natural number (00_scope.md section 5). -/
def bytesBE (v n : Nat) : List Byte :=
  (List.range n).map fun i => BitVec.ofNat 8 (v / 2 ^ (8 * (n - 1 - i)) % 256)

/-- `BE32` of four bytes, the first the most significant (00_scope.md section 5). -/
def be32 (b0 b1 b2 b3 : Byte) : Word := b0 ++ b1 ++ b2 ++ b3

/-- Byte number i of a sequence. Every use of it in the spec is inside the sequence. -/
def byteAt (s : List Byte) (i : Nat) : Byte := s.getD i 0

/-- `BE32(s[i .. i+3])` (00_scope.md section 5). -/
def beWord (s : List Byte) (i : Nat) : Word :=
  be32 (byteAt s i) (byteAt s (i + 1)) (byteAt s (i + 2)) (byteAt s (i + 3))

/-- The bytes a buffer of words holds: byte number i is in word `i div 4` (R57). -/
def packedBytes (ws : List Word) : List Byte := ws.flatMap wordBytes

/-- `KeyBytes` of R110: the first KEYLEN bytes of the KEY buffer. With KEYLEN above 128, which no accepted command has
(R87), it is the whole buffer (log entry 6). -/
def keyBytes (s : State) : List Byte := (packedBytes s.key.toList).take s.keyLen.toNat

/-- The moving factor `MF = MF_HI * 2^32 + MF_LO`, a 64-bit number (R24). -/
def movingFactor (s : State) : BitVec 64 := s.mfHi ++ s.mfLo

/-- `MfBytes` of R111: the moving factor as 8 big-endian bytes. -/
def mfBytes (s : State) : List Byte := wordBytes s.mfHi ++ wordBytes s.mfLo

/-- `DigestBytes` of R133: the 20 bytes of the DIGEST registers. -/
def digestBytes (s : State) : List Byte := packedBytes s.digest.toList

/-- The CODE buffer as its 16 bytes (R30). -/
def codeBytes (s : State) : List Byte := packedBytes s.code.toList

/-- DIGEST[j] <- BE32(digest[4j .. 4j+3]) for j = 0..4 (R117). -/
def digestWords (d : List Byte) : Vector Word 5 :=
  #v[beWord d 0, beWord d 4, beWord d 8, beWord d 12, beWord d 16]

/-- CODE[j] <- BE32(code16[4j .. 4j+3]) for j = 0..3 (R144). -/
def codeWords (c : List Byte) : Vector Word 4 :=
  #v[beWord c 0, beWord c 4, beWord c 8, beWord c 12]

end Sys2Proof.Machine
end

