-- ==== Sys2Proof/Machine/Flags.lean ====
section
/-! DEFINITION. The STATUS word (R31), the error codes (R181), and the conditions a command is checked for (R87). -/

namespace Sys2Proof.Machine

/-- The number of an error in STATUS.ERRCODE (R181). -/
def ErrCode.code : ErrCode → BitVec 4
  | .illegalCmd => 1
  | .keyEmpty => 2
  | .keyLen => 3
  | .seq => 4
  | .digits => 5

/-- The STATUS word a host reads: `BUSY + 2*DONE + 4*ERR + 16*DV + 32*TV + 64*CV + 256*ERRCODE` (R31). -/
def statusWord (s : State) : Word :=
  BitVec.ofNat 32 (s.busy.toNat + 2 * s.done.toNat + 4 * s.err.toNat + 16 * s.dv.toNat + 32 * s.tv.toNat
    + 64 * s.cv.toNat + 256 * s.errCode.toNat)

/-- The key checks of HMAC and GEN: E_KEY_EMPTY when KEYLEN = 0, E_KEY_LEN when KEYLEN > 128 (R87, R183, R184). -/
def checkKey (s : State) : Option ErrCode :=
  if s.keyLen = 0 then some .keyEmpty
  else if Config.keyMax < s.keyLen.toNat then some .keyLen
  else none

/-- The sequence check of DT and FMT: E_SEQ when the input result is not valid (R87, R185). -/
def checkValid (flag : Bool) : Option ErrCode :=
  if flag then none else some .seq

/-- The digits check of FMT and GEN: E_DIGITS when DIGITS = 0 (R87, R186). -/
def checkDigits (d : BitVec 4) : Option ErrCode :=
  if d = 0 then some .digits else none

/-- `Check(c)` of R87 for a legal command: the first check that fails gives the error, in the order key, sequence,
digits (R187). An illegal word is rejected before any of these (R182). -/
def check (i : Instr) (s : State) : Option ErrCode :=
  match i with
  | .hmac => checkKey s
  | .dt => checkValid s.dv
  | .fmt d => (checkValid s.tv).or (checkDigits d)
  | .gen d => (checkKey s).or (checkDigits d)
  | .zero => none

end Sys2Proof.Machine
end

