-- ==== Sys2Proof/Machine/Ops.lean ====
section
/-! DEFINITION. The named operations over the registers, each an update of the state (what it does not name it keeps), and
on them the two outcomes of the command procedure of R88: the rejection of a command (R188), which is the engine's one
form of an exception, and its acceptance (R90). -/

namespace Sys2Proof.Machine

/-- STATUS.DONE, ERR and ERRCODE <- 0: what a CMD write made while idle does first (R88). This is also the only return
from a rejection the engine has, besides reset (R190). -/
def State.clearOutcome (s : State) : State := { s with done := false, err := false, errCode := 0 }

/-- STATUS.ERR <- 1, STATUS.ERRCODE <- e (R88). -/
def State.setError (e : ErrCode) (s : State) : State := { s with err := true, errCode := e.code }

/-- DIGEST[0..4] <- 0, DV <- 0 (R90). -/
def State.clearDigest (s : State) : State := { s with digest := Vector.replicate 5 0, dv := false }

/-- OFFSET <- 0, TRUNC <- 0, TV <- 0 (R90). -/
def State.clearTrunc (s : State) : State := { s with offset := 0, trunc := 0, tv := false }

/-- BIN <- 0, CODELEN <- 0, CODE[0..3] <- 0, CV <- 0 (R90). -/
def State.clearCode (s : State) : State :=
  { s with bin := 0, codeLen := 0, code := Vector.replicate 4 0, cv := false }

/-- CUR_OP and CUR_DIGITS <- the fields of the command word, BUSY <- 1 (R88). -/
def State.latch (i : Instr) (s : State) : State :=
  { s with curOp := i.opcode, curDigits := i.digitsField, busy := true }

/-- DIGEST <- the five words, DV <- 1 (R114). -/
def State.putDigest (d : Vector Word 5) (s : State) : State := { s with digest := d, dv := true }

/-- OFFSET and TRUNC <- the two values, TV <- 1 (R135). -/
def State.putTrunc (o : BitVec 4) (t : BitVec 31) (s : State) : State := { s with offset := o, trunc := t, tv := true }

/-- BIN, CODELEN and CODE <- the three values, CV <- 1 (R146). -/
def State.putCode (b : BitVec 31) (n : BitVec 4) (c : Vector Word 4) (s : State) : State :=
  { s with bin := b, codeLen := n, code := c, cv := true }

/-- KEY[0..31] <- 0, KEYLEN <- 0, MF_HI <- 0, MF_LO <- 0 (R164). -/
def State.clearOperands (s : State) : State :=
  { s with key := Vector.replicate 32 0, keyLen := 0, mfHi := 0, mfLo := 0 }

/-- CUR_OP, CUR_DIGITS <- 0, BUSY <- 0, DONE <- 1: the common end of every completion step (R89). -/
def State.finish (s : State) : State := { s with curOp := 0, curDigits := 0, busy := false, done := true }

/-- KEY[j] <- v (R54). -/
def State.setKey (j : Nat) (v : Word) (s : State) : State := { s with key := s.key.setIfInBounds j v }

/-- KEYLEN <- v[7:0] (R23, R54). -/
def State.setKeyLen (v : Word) (s : State) : State := { s with keyLen := v.extractLsb' 0 8 }

/-- MF_HI <- v (R54). -/
def State.setMfHi (v : Word) (s : State) : State := { s with mfHi := v }

/-- MF_LO <- v (R54). -/
def State.setMfLo (v : Word) (s : State) : State := { s with mfLo := v }

/-- The host receives the value of a read (R51); the engine's own state is as before (R59). -/
def State.reply (v : Word) (s : State) : State := { s with replies := s.replies ++ [v] }

/-- The reset action: every piece of the engine's state to its value of R39, whatever the engine was doing (R200, R201,
R202). The order of the actions to come and what the host has read are not the engine's. -/
def State.restart (s : State) : State := { State.reset with pending := s.pending, replies := s.replies }

/-- The actions still to come become `rest`. -/
def State.withPending (rest : List Action) (s : State) : State := { s with pending := rest }

/-- TAKING AN EXCEPTION: the rejection of a command with error e writes exactly DONE <- 0, ERR <- 1, ERRCODE <- e; it
saves nothing, changes no mode and transfers control nowhere (R188, R189). -/
def reject (e : ErrCode) (s : State) : State := s.clearOutcome.setError e

/-- `ClearResults(c)` of R90. -/
def clearResults (i : Instr) (s : State) : State :=
  match i with
  | .hmac => s.clearDigest.clearTrunc.clearCode
  | .dt => s.clearTrunc.clearCode
  | .fmt _ => s.clearCode
  | .gen _ => s.clearDigest.clearTrunc.clearCode
  | .zero => s.clearDigest.clearTrunc.clearCode

/-- The acceptance of a command: DONE, ERR, ERRCODE cleared, the results it will overwrite cleared, the command latched
and BUSY set (R88, R90). -/
def accept (i : Instr) (s : State) : State := (clearResults i s.clearOutcome).latch i

/-- The command procedure of R88 for a word that decodes to the command i: ignored while busy (R55), otherwise rejected
or accepted, by `Check` on the state as it is at this instant. -/
def issue (i : Instr) (s : State) : State :=
  if s.busy then s
  else match check i s with
    | some e => reject e s
    | none => accept i s

/-- The command procedure of R88 for a word that decodes to ILLEGAL: ignored while busy, otherwise E_ILLEGAL_CMD and
nothing else (R84, R182). -/
def issueIllegal (s : State) : State :=
  if s.busy then s else reject .illegalCmd s

end Sys2Proof.Machine
end

