-- ==== Sys2Proof/Machine/Format.lean ====
section
/-! DEFINITION. The base-10 digit formatter and the FMT command (42_format.md). -/

namespace Sys2Proof.Machine

/-- `Bin(t, d) = t mod 10^d` of R141, with the exact modulus of R140. -/
def binOf (t d : Nat) : Nat := t % 10 ^ d

/-- Character number k of b at d characters: `0x30 + ((b div 10^(d-1-k)) mod 10)` (R143). -/
def charOf (b d k : Nat) : Byte := BitVec.ofNat 8 (0x30 + b / 10 ^ (d - 1 - k) % 10)

/-- `Chars(b, d)` of R143. -/
def charsOf (b d : Nat) : List Byte := (List.range d).map (charOf b d)

/-- The 16-byte sequence `Chars(b, d) || rep(0x00, 16 - d)` of R144. -/
def code16 (b d : Nat) : List Byte := charsOf b d ++ List.replicate (Config.codeBytes - d) 0

/-- FMT (R145): the command procedure at its CMD write. The computation is its completion step, `doFmt`. -/
def execFmt (d : BitVec 4) (s : State) : Host.Outcome State Fault Refusal := .next (issue (.fmt d) s)

/-- `DoFmt(d)` of R146: BIN, CODELEN and CODE <- the formatting of TRUNC at d characters, CV <- 1. No
reachable state completes with d = 0 (log entry 7). -/
def doFmt (d : BitVec 4) (s : State) : State :=
  s.putCode (BitVec.ofNat 31 (binOf s.trunc.toNat d.toNat)) d (codeWords (code16 (binOf s.trunc.toNat d.toNat) d.toNat))

end Sys2Proof.Machine
end

