-- ==== Sys2Proof/Machine/Sha1.lean ====
section
/-! DEFINITION. SHA-1 (R100 to R106) and HMAC (R108, R109) as functions of byte sequences. The SHA-1 working registers are
not architectural state (R34). The spec supplies both algorithms from general knowledge (G1, G2; log entry 14). -/

namespace Sys2Proof.Machine

/-- `ROTL(x, n)` on a 32-bit word, for 0 < n < 32 (00_scope.md section 5). -/
def rotl (x : Word) (n : Nat) : Word := (x <<< n) ||| (x >>> (32 - n))

/-- `Pad(msg)` of R101: 0x80, then k zero bytes with `k = (55 - L) mod 64`, then the length in bits as 8 bytes
(for messages below 2^61 bytes; log entry 8). -/
def pad (msg : List Byte) : List Byte :=
  msg ++ [0x80] ++ List.replicate ((55 + 64 - msg.length % 64) % 64) 0 ++ bytesBE (8 * msg.length) 8

/-- Five words: a chaining value H0..H4 (R102), or the working variables a..e (R105). -/
structure Chain where
  a : Word
  b : Word
  c : Word
  d : Word
  e : Word
deriving DecidableEq, Repr

/-- The initial chaining value (R102). -/
def chainInit : Chain := ⟨0x67452301, 0xEFCDAB89, 0x98BADCFE, 0x10325476, 0xC3D2E1F0⟩

/-- The sixteen words of a 64-byte block, `M[t] = BE32(B[4t .. 4t+3])` (R100). -/
def blockWords (block : List Byte) : List Word := (List.range 16).map fun t => beWord block (4 * t)

/-- `W[t] = ROTL(W[t-3] ^ W[t-8] ^ W[t-14] ^ W[t-16], 1)` (R103), where the words before W[t] are listed latest first. -/
def nextWord (latestFirst : List Word) : Word :=
  rotl (latestFirst.getD 2 0 ^^^ latestFirst.getD 7 0 ^^^ latestFirst.getD 13 0 ^^^ latestFirst.getD 15 0) 1

/-- n more words of the schedule, latest first (R103). -/
def extendSchedule : Nat → List Word → List Word
  | 0, ws => ws
  | n + 1, ws => extendSchedule n (nextWord ws :: ws)

/-- The message schedule W[0..79] of one block (R103). -/
def schedule (block : List Byte) : List Word := (extendSchedule 64 (blockWords block).reverse).reverse

/-- The round function f_t (R104). -/
def roundF (t : Nat) (b c d : Word) : Word :=
  if t < 20 then (b &&& c) ||| (~~~b &&& d)
  else if t < 40 then b ^^^ c ^^^ d
  else if t < 60 then (b &&& c) ||| (b &&& d) ||| (c &&& d)
  else b ^^^ c ^^^ d

/-- The round constant K(t) (R104). -/
def roundK (t : Nat) : Word :=
  if t < 20 then 0x5A827999
  else if t < 40 then 0x6ED9EBA1
  else if t < 60 then 0x8F1BBCDC
  else 0xCA62C1D6

/-- One round of R105: T from the old a..e, then the five assignments. -/
def round (t : Nat) (w : Word) (x : Chain) : Chain :=
  ⟨rotl x.a 5 + roundF t x.b x.c x.d + x.e + roundK t + w, x.a, rotl x.b 30, x.c, x.d⟩

/-- The rounds from number t on, one per word of the schedule (R105). -/
def rounds : Nat → List Word → Chain → Chain
  | _, [], x => x
  | t, w :: ws, x => rounds (t + 1) ws (round t w x)

/-- `Compress(H, B)` of R105. -/
def compress (h : Chain) (block : List Byte) : Chain :=
  let x := rounds 0 (schedule block) h
  ⟨h.a + x.a, h.b + x.b, h.c + x.c, h.d + x.d, h.e + x.e⟩

/-- Compression of the first n blocks of a padded message, in order (R106). -/
def absorb : Nat → List Byte → Chain → Chain
  | 0, _, h => h
  | n + 1, p, h => absorb n (p.drop Config.hashBlock) (compress h (p.take Config.hashBlock))

/-- The number of 64-byte blocks a message has once padded (R106, R115). -/
def blockCount (msg : List Byte) : Nat := (pad msg).length / Config.hashBlock

/-- The chaining value after the whole padded message (R106). -/
def sha1Chain (msg : List Byte) : Chain := absorb (blockCount msg) (pad msg) chainInit

/-- H0..H4 as 20 bytes (R106). -/
def Chain.bytes (h : Chain) : List Byte :=
  wordBytes h.a ++ wordBytes h.b ++ wordBytes h.c ++ wordBytes h.d ++ wordBytes h.e

/-- `SHA1(msg)` of R106. -/
def sha1 (msg : List Byte) : List Byte := (sha1Chain msg).bytes

/-- The key, replaced by its hash when it is longer than a block (R108). -/
def hashedKey (key : List Byte) : List Byte := if Config.hashBlock < key.length then sha1 key else key

/-- `K0(key)` of R108: the 64-byte key block. -/
def keyBlock (key : List Byte) : List Byte :=
  hashedKey key ++ List.replicate (Config.hashBlock - (hashedKey key).length) 0

/-- Each byte of a sequence xor a constant (R109). -/
def xorEach (c : Byte) (s : List Byte) : List Byte := s.map (· ^^^ c)

/-- The message of the outer hash of R109. -/
def outerMessage (key msg : List Byte) : List Byte :=
  xorEach 0x5C (keyBlock key) ++ sha1 (xorEach 0x36 (keyBlock key) ++ msg)

/-- `HMAC_SHA1(key, msg)` of R109. Irreducible, so that no proof about a state runs into the hash by accident; `rw [hmacSha1]`
unfolds it, and the kernel evaluates it. -/
@[irreducible] def hmacSha1 (key msg : List Byte) : List Byte := sha1 (outerMessage key msg)

end Sys2Proof.Machine
end

