-- ==== Sys2Proof/Machine/HmacSha1.lean ====
section
/-! DEFINITION. The HMAC-SHA1 unit and the HMAC command (40_hmac_sha1.md section 4). -/

namespace Sys2Proof.Machine

/-- HMAC (R112, R113): the command procedure at its CMD write. The computation is its completion step, `doHmac`. -/
def execHmac (s : State) : Host.Outcome State Fault Refusal := .next (issue .hmac s)

/-- `DoHmac` of R114: DIGEST <- HMAC_SHA1(KeyBytes, MfBytes), DV <- 1. -/
def doHmac (s : State) : State := s.putDigest (digestWords (hmacSha1 (keyBytes s) (mfBytes s)))

end Sys2Proof.Machine
end

