-- ==== Sys2Proof/Machine/Truncate.lean ====
section
/-! DEFINITION. The dynamic offset extractor and the DT command (41_truncate.md). -/

namespace Sys2Proof.Machine

/-- `Offset(digest)` of R130: the low four bits of the last byte. -/
def offsetOf (digest : List Byte) : BitVec 4 := (byteAt digest 19 &&& 0x0F).setWidth 4

/-- `Trunc(digest)` of R131: BE32 of the four bytes at the offset, with the sign bit cleared. -/
def truncOf (digest : List Byte) : BitVec 31 :=
  (beWord digest (offsetOf digest).toNat &&& 0x7FFFFFFF).setWidth 31

/-- DT (R134): the command procedure at its CMD write. The computation is its completion step, `doDt`. -/
def execDt (s : State) : Host.Outcome State Fault Refusal := .next (issue .dt s)

/-- `DoDt` of R135: OFFSET and TRUNC <- the truncation of DIGEST, TV <- 1. -/
def doDt (s : State) : State := s.putTrunc (offsetOf (digestBytes s)) (truncOf (digestBytes s))

end Sys2Proof.Machine
end

