-- ==== Sys2Proof/Machine/GenZero.lean ====
section
/-! DEFINITION. The GEN and ZERO commands (43_gen_and_control.md), and the function the engine computes end to end
(R2). -/

namespace Sys2Proof.Machine

/-- `truncatedCode(secretBytes, movingFactor, digits)` of R2: the decimal characters of the code. -/
def truncatedCode (key : List Byte) (mf : BitVec 64) (digits : Nat) : List Byte :=
  charsOf (binOf (truncOf (hmacSha1 key (bytesBE mf.toNat 8))).toNat digits) digits

/-- GEN (R160): the command procedure at its CMD write. The computation is its completion step, `doGen`. -/
def execGen (d : BitVec 4) (s : State) : Host.Outcome State Fault Refusal := .next (issue (.gen d) s)

/-- The completion of GEN (R161): the three units in series, each reading what the one before wrote. -/
def doGen (d : BitVec 4) (s : State) : State := doFmt d (doDt (doHmac s))

/-- ZERO (R163): the command procedure at its CMD write. The clearing of the operands is its completion step,
`doZero`. -/
def execZero (s : State) : Host.Outcome State Fault Refusal := .next (issue .zero s)

/-- `DoZero` of R164. -/
def doZero (s : State) : State := s.clearOperands

end Sys2Proof.Machine
end

