-- ==== Sys2Proof/Machine/Completion.lean ====
section
/-! DEFINITION. The completion step (R89), the one action of the ENGINE agent. -/

namespace Sys2Proof.Machine

/-- What the command in progress computes, by CUR_OP (R89). A CUR_OP outside 1..5, which no reachable state has while
busy (R35), matches no case and computes nothing (log entry 5). -/
def compute (s : State) : State :=
  match s.curOp.toNat with
  | 0x1 => doHmac s
  | 0x2 => doDt s
  | 0x3 => doFmt s.curDigits s
  | 0x4 => doGen s.curDigits s
  | 0x5 => doZero s
  | _ => s

/-- The ENGINE's turn: the completion step where it is enabled, that is exactly when BUSY = 1 (R89); otherwise nothing
(log entry 3). It has no failing branch (R192). -/
def complete (s : State) : State :=
  if s.busy then (compute s).finish else s

end Sys2Proof.Machine
end

