-- ==== Sys2Proof/Machine/Dispatch.lean ====
section
/-! DEFINITION. What a CMD write of each legal command does: one arm per constructor of Instr. -/

namespace Sys2Proof.Machine

def exec (i : Instr) (s : State) : Host.Outcome State Fault Refusal :=
  match i with
  | .hmac => Sys2Proof.Machine.execHmac s
  | .dt => Sys2Proof.Machine.execDt s
  | .fmt d => Sys2Proof.Machine.execFmt d s
  | .gen d => Sys2Proof.Machine.execGen d s
  | .zero => Sys2Proof.Machine.execZero s

end Sys2Proof.Machine
end

