-- ==== Sys2Proof/Machine/Port.lean ====
section
/-! DEFINITION. The register port (20_memory.md): what each read returns (R53), what each write does (R54, R55, R56), the
bit pattern of a transaction (R51); and the actions of the three agents, performed one at a time (R61). -/

namespace Sys2Proof.Machine

/-- `RegRead(a)` of R53: the value a host reads at word index a. CMD, KEY and the reserved indices read 0 (R56). -/
def regRead (a : BitVec 6) (s : State) : Word :=
  match a.toNat with
  | 0x02 => statusWord s
  | 0x03 => s.keyLen.setWidth 32
  | 0x04 => s.mfHi
  | 0x05 => s.mfLo
  | 0x06 => s.offset.setWidth 32
  | 0x07 => s.trunc.setWidth 32
  | 0x08 => s.bin.setWidth 32
  | 0x09 => s.codeLen.setWidth 32
  | 0x0C => s.code[0]
  | 0x0D => s.code[1]
  | 0x0E => s.code[2]
  | 0x0F => s.code[3]
  | 0x10 => s.digest[0]
  | 0x11 => s.digest[1]
  | 0x12 => s.digest[2]
  | 0x13 => s.digest[3]
  | 0x14 => s.digest[4]
  | _ => 0

/-- The index of CMD (R52). -/
def cmdIndex : BitVec 6 := 0x01

/-- What a write at an index other than CMD stores while idle (R54): KEYLEN, MF_HI, MF_LO and KEY take the value, every
other index ignores it (R56). -/
def storeOperand (a : BitVec 6) (v : Word) (s : State) : State :=
  if a = 0x03 then s.setKeyLen v
  else if a = 0x04 then s.setMfHi v
  else if a = 0x05 then s.setMfLo v
  else if 0x20 ≤ a.toNat then s.setKey (a.toNat - 0x20) v
  else s

/-- A host write to CMD (R88): the word is decoded and the command's procedure runs. -/
def cmdWrite (w : Word) (s : State) : Host.Outcome State Fault Refusal :=
  match Sys2Proof.decode w with
  | .legal i => exec i s
  | .illegal _ => .next (issueIllegal s)

/-- `RegWrite(a, v)` (R54, R55): at CMD the command procedure, which itself ignores a busy engine; elsewhere nothing
while busy, and a plain store while idle. -/
def regWrite (a : BitVec 6) (v : Word) (s : State) : Host.Outcome State Fault Refusal :=
  if a = cmdIndex then cmdWrite v s
  else if s.busy then .next s
  else .next (storeOperand a v s)

/-- One port transaction (R51). A read changes nothing in the engine (R59). -/
def transact (t : Transaction) (s : State) : Host.Outcome State Fault Refusal :=
  match t with
  | .regRead a => .next (s.reply (regRead a s))
  | .regWrite a v => regWrite a v s

/-- One atomic action of an agent (R20, R60). -/
def perform (x : Action) (s : State) : Host.Outcome State Fault Refusal :=
  match x with
  | .host t => transact t s
  | .engine => .next (complete s)
  | .reset => .next s.restart

/-- One step of the machine: the next action in the order held in the state; when no action is listed, the ENGINE's turn,
so that a busy engine completes (R219) and an idle one stays as it is (log entry 2). -/
def takeTurn (s : State) : Host.Outcome State Fault Refusal :=
  match s.pending with
  | [] => .next (complete s)
  | x :: rest => perform x (s.withPending rest)

/-- The bit pattern `(we, a[5:0], v[31:0])` of a transaction (R51); v is ignored when we = 0, and is encoded as 0. -/
def encodeTransaction : Transaction → BitVec 39
  | .regRead a => 0#1 ++ a ++ 0#32
  | .regWrite a v => 1#1 ++ a ++ v

/-- The transaction a bit pattern stands for (R51): total, every pattern is one. -/
def decodeTransaction (p : BitVec 39) : Transaction :=
  if p.extractLsb' 38 1 = 1#1 then .regWrite (p.extractLsb' 32 6) (p.extractLsb' 0 32)
  else .regRead (p.extractLsb' 32 6)

/-- The host write that carries a command word, put first among the actions to come. Log entry 12. -/
def placeCommand (w : Word) (s : State) : State :=
  s.withPending (.host (.regWrite cmdIndex w) :: s.pending)

end Sys2Proof.Machine
end

