-- ==== Sys2Proof/Machine/Step.lean ====
section
/-! DEFINITION. The step, and the placing of a command word for the next step. -/

namespace Sys2Proof.Machine

/-- One step: one atomic action of one agent (R60, R61). -/
def step (s : State) : Host.Outcome State Fault Refusal := takeTurn s

/-- A command is executed from the very write that carries it (R62); there is no fetch (R36). So the instruction is placed
by making the host's write of it to CMD the next action. A command is one 32-bit word; bits at nbits and above are 0.
Log entry 12. -/
def State.withFetchWord (s : State) (nbits w : Nat) : State :=
  placeCommand (BitVec.ofNat 32 (w % 2 ^ nbits)) s

end Sys2Proof.Machine
end

