-- ==== Sys2Proof/Machine/Bus.lean ====
section
/-! DEFINITION. The platform wrapper of R58 and R64: which accesses of a byte-addressed bus reach the port. It stands
outside the engine, so a refused access is no refusal of a step: it presents nothing (log entries 9 and 10). -/

namespace Sys2Proof.Machine

/-- An access on a byte-addressed bus: a load, or a store of a value; `bytes` is its width. The value of a store is given
as the 32 bits an accepted access carries. -/
structure BusAccess where
  addr : Nat
  bytes : Nat
  store : Option Word
deriving DecidableEq, Repr

/-- Why the wrapper refuses an access (R58). -/
inductive BusRefusal where
  /-- not 32 bits wide -/
  | width
  /-- not naturally aligned, or not at `base + 4*a` -/
  | misaligned
  /-- below the base or beyond `base + 0xFC` -/
  | outside
deriving DecidableEq, Repr

/-- What the wrapper does with an access. -/
inductive BusAnswer where
  | present (t : Transaction)
  | refuse (why : BusRefusal)
deriving DecidableEq, Repr

/-- The wrapper with the registers at a given base (R58): only naturally aligned 32-bit accesses at `base + 4*a`,
0 <= a <= 63, pass. -/
def wrapperAt (base : Nat) (x : BusAccess) : BusAnswer :=
  if x.bytes ≠ 4 then .refuse .width
  else if x.addr < base ∨ base + 0xFC < x.addr then .refuse .outside
  else if x.addr % 4 ≠ 0 ∨ (x.addr - base) % 4 ≠ 0 then .refuse .misaligned
  else match x.store with
    | none => .present (.regRead (BitVec.ofNat 6 ((x.addr - base) / 4)))
    | some v => .present (.regWrite (BitVec.ofNat 6 ((x.addr - base) / 4)) v)

/-- The wrapper at the platform's own base, which is open (R64). -/
def wrapper (x : BusAccess) : BusAnswer := wrapperAt Config.regBase x

/-- What an access presents to the engine: one transaction, or nothing where it is refused (R58). -/
def BusAnswer.actions : BusAnswer → List Action
  | .present t => [.host t]
  | .refuse _ => []

end Sys2Proof.Machine
end

