-- ==== Sys2Proof/Machine/HostProgram.lean ====
section
/-! DEFINITION. The expansions of the host notation of R91 and R92 into port transactions, and of WAIT into the completion
step it waits for. -/

namespace Sys2Proof.Machine

/-- The word index of a register name (R52). -/
def indexOf : RegName → BitVec 6
  | .cmd => 0x01
  | .status => 0x02
  | .keyLen => 0x03
  | .mfHi => 0x04
  | .mfLo => 0x05
  | .offset => 0x06
  | .trunc => 0x07
  | .bin => 0x08
  | .codeLen => 0x09
  | .code j => BitVec.ofNat 6 (0x0C + j)
  | .digest j => BitVec.ofNat 6 (0x10 + j)
  | .key j => BitVec.ofNat 6 (0x20 + j)
  | .raw a => BitVec.ofNat 6 a

/-- `WR name, value` (R91). -/
def wr (r : RegName) (v : Word) : Action := .host (.regWrite (indexOf r) v)

/-- `RD name` (R91). -/
def rd (r : RegName) : Action := .host (.regRead (indexOf r))

/-- `CMD` and a legal command (R91): a write of its word to CMD. -/
def cmd (i : Instr) : Action := wr .cmd (Sys2Proof.encode i)

/-- `WAIT` (R92): the host reads STATUS until BUSY reads 0; in a listing the completion step is taken to have happened
there. The number of reads that still find the engine busy is the host's and the engine's luck (log entry 11). -/
def waitFor (polls : Nat) : List Action := List.replicate polls (rd .status) ++ [.engine, rd .status]

/-- `LOADKEY b0 ... b(n-1)` (R92): for j from 0 to `(n-1) div 4` a write of KEY[j], missing bytes taken as 0x00, then
KEYLEN. -/
def loadKey (bytes : List Byte) : List Action :=
  (List.range ((bytes.length - 1) / 4 + 1)).map (fun j => wr (.key j) (beWord bytes (4 * j)))
    ++ [wr .keyLen (BitVec.ofNat 32 bytes.length)]

/-- `LOADMF m` (R92). -/
def loadMf (m : BitVec 64) : List Action := [wr .mfHi (m.extractLsb' 32 32), wr .mfLo (m.extractLsb' 0 32)]

/-- `HOTP d` up to and including its read of STATUS (R92). -/
def hotpIssue (d : BitVec 4) (polls : Nat) : List Action := cmd (.gen d) :: waitFor polls ++ [rd .status]

/-- The rest of `HOTP d`, which the host does according to the STATUS it read: when ERR = 0 it reads CODELEN and
`CODE[0] .. CODE[(d-1) div 4]` (R92). With d = 0 and ERR = 0 (as when the GEN write was lost while busy) R92 gives the range no
meaning; the model reads CODE[0] (log entry 16). -/
def hotpReads (status : Word) (d : BitVec 4) : List Action :=
  if status.getLsbD 2 then []
  else rd .codeLen :: (List.range ((d.toNat - 1) / 4 + 1)).map (fun j => rd (.code j))

/-- The expansion of one line (R91, R92). -/
def expand : Line → List Action
  | .wr r v => [wr r v]
  | .rd r => [rd r]
  | .cmdHmac => [cmd .hmac]
  | .cmdDt => [cmd .dt]
  | .cmdFmt d => [cmd (.fmt (BitVec.ofNat 4 d))]
  | .cmdGen d => [cmd (.gen (BitVec.ofNat 4 d))]
  | .cmdZero => [cmd .zero]
  | .cmdRaw w => [wr .cmd w]
  | .wait polls => waitFor polls
  | .loadKey bytes => loadKey bytes
  | .loadMf m => loadMf m

/-- The actions of a host program (R222), none where a line is ill formed: the notation has no such line, and U3 has the
encoder refuse digits above 15. -/
def assemble (program : List Line) : Option (List Action) :=
  if program.all Line.wellFormed then some (program.flatMap expand) else none

end Sys2Proof.Machine
end

