-- ==== Sys2Proof/Safety.lean ====
section
/-! DEFINITION. The terms in which claims speak of a run: the invariant of R35, the engine's part of the state, whose turn
it is, when a run has ended (R222). -/

namespace Sys2Proof.Machine

/-- The seven items of R35, in its order. -/
structure State.Rule35 (s : State) : Prop where
  /-- 1. at most one of BUSY, DONE, ERR is 1 -/
  oneOfThree : ¬(s.busy = true ∧ s.done = true) ∧ ¬(s.busy = true ∧ s.err = true) ∧ ¬(s.done = true ∧ s.err = true)
  /-- 2. ERRCODE is not 0 exactly when ERR = 1, and then it is one of 1..5 -/
  errorCode : (s.errCode ≠ 0 ↔ s.err = true) ∧ (s.err = true → 1 ≤ s.errCode.toNat ∧ s.errCode.toNat ≤ 5)
  /-- 3. CV = 1 implies TV = 1, and TV = 1 implies DV = 1 -/
  validity : (s.cv = true → s.tv = true) ∧ (s.tv = true → s.dv = true)
  /-- 4. an invalid result register is zero -/
  invalidZero : (s.dv = false → s.digest = Vector.replicate 5 0) ∧ (s.tv = false → s.offset = 0 ∧ s.trunc = 0)
    ∧ (s.cv = false → s.bin = 0 ∧ s.codeLen = 0 ∧ s.code = Vector.replicate 4 0)
  /-- 5. CUR_OP and CUR_DIGITS are 0 while idle, CUR_OP is one of 1..5 while busy -/
  current : (s.busy = false → s.curOp = 0 ∧ s.curDigits = 0)
    ∧ (s.busy = true → 1 ≤ s.curOp.toNat ∧ s.curOp.toNat ≤ 5)
  /-- 6. a valid code is the formatting of TRUNC at CODELEN characters -/
  formatting : s.cv = true → (1 ≤ s.codeLen.toNat ∧ s.codeLen.toNat ≤ 15)
    ∧ s.bin.toNat = s.trunc.toNat % 10 ^ s.codeLen.toNat
    ∧ s.code = codeWords (code16 s.bin.toNat s.codeLen.toNat)
  /-- 7. a valid truncation is that of the digest in DIGEST -/
  truncation : s.tv = true → s.offset = offsetOf (digestBytes s) ∧ s.trunc = truncOf (digestBytes s)

/-- What a busy state holds beside R35: what the checks of R87 let through and what R90 cleared for the command in
progress. With it the seven items of R35 are kept by every step. -/
structure State.InProgress (s : State) : Prop where
  /-- the results the command will overwrite, and those derived from them, are cleared (R90) -/
  cleared : s.busy = true → s.cv = false ∧ (s.curOp ≠ 3 → s.tv = false) ∧ (s.curOp ≠ 3 → s.curOp ≠ 2 → s.dv = false)
  /-- HMAC and GEN have a key of 1 to 128 bytes (R87) -/
  key : s.busy = true → s.curOp = 1 ∨ s.curOp = 4 → 1 ≤ s.keyLen.toNat ∧ s.keyLen.toNat ≤ 128
  /-- DT has a digest, FMT a truncated value (R87) -/
  input : s.busy = true → (s.curOp = 2 → s.dv = true) ∧ (s.curOp = 3 → s.tv = true)
  /-- CUR_DIGITS is not 0 for FMT and GEN, and 0 for the others (R87, R81) -/
  digits : s.busy = true → (s.curOp = 3 ∨ s.curOp = 4 ↔ s.curDigits ≠ 0)

/-- The invariant every step keeps: R35 and what it needs of a busy state. -/
def State.Inv (s : State) : Prop := s.Rule35 ∧ s.InProgress

/-- The engine's part of the state, without the model's own two fields. Two states with the same one are the same engine
state of R21. -/
def State.engineOnly (s : State) : State := { s with pending := [], replies := [] }

/-- The next action is the ENGINE's turn: it is listed, or nothing is. -/
def State.engineTurn (s : State) : Prop := s.pending = [] ∨ s.pending.head? = some .engine

/-- The next action is the reset action. -/
def State.resetTurn (s : State) : Prop := s.pending.head? = some .reset

/-- The next action is a host's write of v at index a. -/
def State.writeTurn (s : State) (a : BitVec 6) (v : Word) : Prop :=
  s.pending.head? = some (.host (.regWrite a v))

/-- The indices of the operand registers KEYLEN, MF_HI, MF_LO and KEY (R52). -/
def operandIndex (a : BitVec 6) : Prop := a = 0x03 ∨ a = 0x04 ∨ a = 0x05 ∨ 0x20 ≤ a.toNat

/-- The causes of R181 for a word written to CMD, each by itself, whatever the others are. -/
def causeApplies (w : Word) (s : State) : ErrCode → Prop
  | .illegalCmd => ∃ why, Sys2Proof.decode w = .illegal why
  | .keyEmpty => (Sys2Proof.decode w = .legal .hmac ∨ ∃ d, Sys2Proof.decode w = .legal (.gen d)) ∧ s.keyLen = 0
  | .keyLen => (Sys2Proof.decode w = .legal .hmac ∨ ∃ d, Sys2Proof.decode w = .legal (.gen d)) ∧ 128 < s.keyLen.toNat
  | .seq => (Sys2Proof.decode w = .legal .dt ∧ s.dv = false)
      ∨ ((∃ d, Sys2Proof.decode w = .legal (.fmt d)) ∧ s.tv = false)
  | .digits => Sys2Proof.decode w = .legal (.fmt 0) ∨ Sys2Proof.decode w = .legal (.gen 0)

/-- A run has ended: no action is left and the engine is idle (R222). -/
def State.ended (s : State) : Prop := s.pending = [] ∧ s.busy = false

/-- A state some order of the agents' actions leads to from reset. -/
def State.reachable (t : State) : Prop :=
  ∃ (actions : List Action) (n : Nat), Host.Core.run Sys2Proof.core n (State.reset.withPending actions) = .next t

/-- The code string: the first CODELEN bytes of the CODE buffer (R11). -/
def codeString (s : State) : List Byte := (codeBytes s).take s.codeLen.toNat

end Sys2Proof.Machine
end

