-- ==== Sys2Proof/Certificates/Slice0/Obligations.lean ====
section
/-! DEFINITION. The statements for the provers. -/

open Sys2Proof Sys2Proof.Machine

/-! ### Encoding -/

/-- R86 (marked derived): the words of the five commands; every command survives encode and decode, and every legal word
decode and encode. -/
def Obligations.DecodeEncodeRoundTrip : Prop :=
  (∀ i, decode (encode i) = .legal i) ∧ (∀ w i, decode w = .legal i → encode i = w)
    ∧ encode .hmac = 1 ∧ encode .dt = 2 ∧ encode .zero = 5
    ∧ ∀ d : BitVec 4, (encode (.fmt d)).toNat = 3 + 256 * d.toNat ∧ (encode (.gen d)).toNat = 4 + 256 * d.toNat

/-- R83: a word encodes a command exactly when it fits that command's row of the opcode map; the five patterns are
disjoint; the legal words are the 35 listed ones; FMT and GEN with d = 0 are legal as encodings and rejected for their
value. -/
def Obligations.DecodeFollowsOpcodeMap : Prop :=
  (∀ w i, decode w = .legal i ↔ ∃ r ∈ opcodeRows, r.fits w = true ∧ r.instr (digitsField w) = i)
    ∧ opcodeRows.Pairwise (fun r q => ∀ w, ¬(r.fits w = true ∧ q.fits w = true))
    ∧ (∀ w, (∃ i, decode w = .legal i) ↔ w ∈ legalWords) ∧ legalWords.Nodup ∧ legalWords.length = 35
    ∧ ∀ s, check (.fmt 0) s ≠ none ∧ check (.gen 0) s ≠ none

/-- R84 and R182: exactly the listed words are illegal, and such a word written to CMD while idle is rejected with
E_ILLEGAL_CMD (code 1) and has no other effect. -/
def Obligations.IllegalWordsAreRejected : Prop :=
  (∀ w, (∃ why, decode w = .illegal why) ↔
      (w.extractLsb' 0 4 = 0 ∨ 6 ≤ (w.extractLsb' 0 4).toNat ∨ w.extractLsb' 12 20 ≠ 0 ∨ w.extractLsb' 4 4 ≠ 0
        ∨ (w.extractLsb' 8 4 ≠ 0 ∧ (w.extractLsb' 0 4 = 1 ∨ w.extractLsb' 0 4 = 2 ∨ w.extractLsb' 0 4 = 5))))
    ∧ ∀ w s why, decode w = .illegal why → s.busy = false →
        regWrite cmdIndex w s = .next { s with done := false, err := true, errCode := 1 }

/-- Sample words of the spec (R83, 95_test_vectors.md section 6) decode to the commands they stand for, and the illegal ones
to ILLEGAL. Which of the three reasons an illegal word is given is the model's choice (log entry 15): the spec knows one
ILLEGAL. -/
def Obligations.SampleWordsDecode : Prop :=
  decode 0x00000001 = .legal .hmac ∧ decode 0x00000002 = .legal .dt ∧ decode 0x00000603 = .legal (.fmt 6)
    ∧ decode 0x00000F04 = .legal (.gen 15) ∧ decode 0x00000004 = .legal (.gen 0) ∧ decode 0x00000005 = .legal .zero
    ∧ decode 0x00000000 = .illegal .reservedOpcode ∧ decode 0x00000014 = .illegal .reservedBits
    ∧ decode 0x00000105 = .illegal .digitsNotZero

/-- R51: a transaction is the pattern `(we, a, v)`: each transaction is read back from its pattern, and each pattern with
we = 1 is the pattern of the transaction it is read as; with we = 0 the value is ignored. -/
def Obligations.TransactionPattern : Prop :=
  (∀ t, decodeTransaction (encodeTransaction t) = t)
    ∧ (∀ (a : BitVec 6) (v : Word), encodeTransaction (.regWrite a v) = 1#1 ++ a ++ v)
    ∧ ∀ (a : BitVec 6) (v : Word), decodeTransaction (0#1 ++ a ++ v) = .regRead a

/-- R58: the wrapper passes on exactly the naturally aligned 32-bit accesses at `base + 4*a`, 0 <= a <= 63, each as the
transaction at word index a, and presents nothing for any other. -/
def Obligations.WrapperPassesAlignedWords : Prop :=
  (∀ base x t, wrapperAt base x = .present t ↔
      ∃ a : BitVec 6, x.bytes = 4 ∧ x.addr % 4 = 0 ∧ x.addr = base + 4 * a.toNat
        ∧ t = (match x.store with | none => .regRead a | some v => .regWrite a v))
    ∧ ∀ base x, (∀ t, wrapperAt base x ≠ .present t) → (wrapperAt base x).actions = []

/-! ### The step and the port -/

/-- R62 and R88: when the next action is the host's write of a word to CMD that decodes to a command, the step is `exec` of
that command at the state less the action. -/
def Obligations.StepRunsDecodedCommand : Prop :=
  ∀ s w i rest, s.pending = .host (.regWrite cmdIndex w) :: rest → decode w = .legal i →
    step s = exec i { s with pending := rest }

/-- The remaining steps: a read, a write outside CMD, the ENGINE's turn, the reset action, and no action listed (log
entries 1 to 4: that the order of actions is a list, and the ENGINE's turn when it is used up, are the model's choice). -/
def Obligations.StepOfOtherActions : Prop :=
  (∀ s a rest, s.pending = .host (.regRead a) :: rest →
      step s = .next { s with pending := rest, replies := s.replies ++ [regRead a s] })
    ∧ (∀ s a v rest, s.pending = .host (.regWrite a v) :: rest → step s = regWrite a v { s with pending := rest })
    ∧ (∀ s rest, s.pending = .engine :: rest → step s = .next (complete { s with pending := rest }))
    ∧ (∀ s rest, s.pending = .reset :: rest →
        step s = .next { State.reset with pending := rest, replies := s.replies })
    ∧ ∀ s, s.pending = [] → step s = .next (complete s)

/-- R224 (marked derived): no step is stuck or refused, in any state. -/
def Obligations.StepAlwaysAnswersNext : Prop :=
  ∀ s, ∃ t, step s = .next t

/-- R53: what a read returns at each of the 64 indices, and that it changes nothing; while busy, in a state that meets the
invariant (stated below), the result registers the command in progress will write read as 0, and a write leaves KEYLEN,
MF_HI and MF_LO reading as they are. -/
def Obligations.RegReadMap : Prop :=
  (∀ s, regRead 0x02 s = statusWord s ∧ regRead 0x03 s = s.keyLen.setWidth 32 ∧ regRead 0x04 s = s.mfHi
    ∧ regRead 0x05 s = s.mfLo ∧ regRead 0x06 s = s.offset.setWidth 32 ∧ regRead 0x07 s = s.trunc.setWidth 32
    ∧ regRead 0x08 s = s.bin.setWidth 32 ∧ regRead 0x09 s = s.codeLen.setWidth 32
    ∧ (∀ j (h : j < 4), regRead (BitVec.ofNat 6 (0x0C + j)) s = s.code[j])
    ∧ (∀ j (h : j < 5), regRead (BitVec.ofNat 6 (0x10 + j)) s = s.digest[j])
    ∧ ∀ a : BitVec 6, (a.toNat < 2 ∨ a.toNat = 0x0A ∨ a.toNat = 0x0B ∨ 0x15 ≤ a.toNat) → regRead a s = 0)
    ∧ (∀ s a, ∃ t, transact (.regRead a) s = .next t ∧ t.engineOnly = s.engineOnly)
    ∧ ∀ s, s.Inv → s.busy = true →
        (∀ a : BitVec 6, 0x08 ≤ a.toNat → a.toNat ≤ 0x0F → regRead a s = 0)
        ∧ (s.curOp ≠ 3 → regRead 0x06 s = 0 ∧ regRead 0x07 s = 0)
        ∧ (s.curOp ≠ 3 → s.curOp ≠ 2 → ∀ a : BitVec 6, 0x10 ≤ a.toNat → a.toNat ≤ 0x14 → regRead a s = 0)
        ∧ ∀ a v t, transact (.regWrite a v) s = .next t →
            regRead 0x03 t = regRead 0x03 s ∧ regRead 0x04 t = regRead 0x04 s ∧ regRead 0x05 t = regRead 0x05 s

/-- R31: the STATUS word bit by bit; every bit it does not name reads 0. -/
def Obligations.StatusWordBits : Prop :=
  ∀ s, (statusWord s).getLsbD 0 = s.busy ∧ (statusWord s).getLsbD 1 = s.done ∧ (statusWord s).getLsbD 2 = s.err
    ∧ (statusWord s).getLsbD 3 = false ∧ (statusWord s).getLsbD 4 = s.dv ∧ (statusWord s).getLsbD 5 = s.tv
    ∧ (statusWord s).getLsbD 6 = s.cv ∧ (statusWord s).getLsbD 7 = false
    ∧ (statusWord s).extractLsb' 8 4 = s.errCode ∧ (statusWord s).extractLsb' 12 20 = 0

/-- R59: a read returns the register's value to the host and changes nothing in the engine, so every index reads as before
(that the value read is appended to `replies` is the model's own record, log entry 4). -/
def Obligations.ReadsChangeNothing : Prop :=
  ∀ s a, ∃ t, transact (.regRead a) s = .next t ∧ t.replies = s.replies ++ [regRead a s] ∧ t.pending = s.pending
    ∧ t.engineOnly = s.engineOnly ∧ ∀ b, regRead b t = regRead b s

/-- R54: what an idle write does at each of the 64 indices: at CMD the command procedure (R88: `exec` of the command, or
the rejection of an illegal word), at an operand register it changes that register and nothing else, and elsewhere it does
nothing. -/
def Obligations.IdleWriteStoresOperand : Prop :=
  ∀ s v, s.busy = false →
    (∀ i, decode v = .legal i → regWrite 0x01 v s = exec i s)
    ∧ (∀ why, decode v = .illegal why → regWrite 0x01 v s = .next { s with done := false, err := true, errCode := 1 })
    ∧ regWrite 0x03 v s = .next { s with keyLen := v.extractLsb' 0 8 }
    ∧ regWrite 0x04 v s = .next { s with mfHi := v }
    ∧ regWrite 0x05 v s = .next { s with mfLo := v }
    ∧ (∀ j (h : j < 32), regWrite (BitVec.ofNat 6 (0x20 + j)) v s = .next { s with key := s.key.set j v })
    ∧ ∀ a : BitVec 6, (a.toNat = 0 ∨ a.toNat = 2 ∨ 6 ≤ a.toNat ∧ a.toNat < 0x20) → regWrite a v s = .next s

/-- R55: while busy every write is lost, at every index, CMD included. -/
def Obligations.BusyWritesAreLost : Prop :=
  ∀ s a v, s.busy = true → regWrite a v s = .next s

/-- R56: reserved indices read 0 and ignore writes, read-only registers ignore writes, write-only registers read 0, the
reserved bits of the defined registers read 0, and what is written to those of KEYLEN is discarded. -/
def Obligations.ReservedAndWrongDirection : Prop :=
  (∀ s, ∀ a : BitVec 6, (a = 0x00 ∨ a = 0x0A ∨ a = 0x0B ∨ 0x15 ≤ a.toNat ∧ a.toNat ≤ 0x1F) →
      regRead a s = 0 ∧ ∀ v, regWrite a v s = .next s)
    ∧ (∀ s v, ∀ a : BitVec 6, (a = 0x02 ∨ 0x06 ≤ a.toNat ∧ a.toNat ≤ 0x09 ∨ 0x0C ≤ a.toNat ∧ a.toNat ≤ 0x14) →
        regWrite a v s = .next s)
    ∧ (∀ s, ∀ a : BitVec 6, (a = 0x01 ∨ 0x20 ≤ a.toNat) → regRead a s = 0)
    ∧ ∀ s, (regRead 0x03 s).extractLsb' 8 24 = 0 ∧ (regRead 0x06 s).extractLsb' 4 28 = 0
        ∧ (regRead 0x07 s).getLsbD 31 = false ∧ (regRead 0x08 s).getLsbD 31 = false
        ∧ (regRead 0x09 s).extractLsb' 4 28 = 0 ∧ (regRead 0x02 s).getLsbD 3 = false
        ∧ (regRead 0x02 s).getLsbD 7 = false ∧ (regRead 0x02 s).extractLsb' 12 20 = 0
        ∧ ∀ v w : Word, v.extractLsb' 0 8 = w.extractLsb' 0 8 → regWrite 0x03 v s = regWrite 0x03 w s

/-! ### The five commands: acceptance and completion -/

/-- HMAC in an idle state with a key of 1 to 128 bytes (R112): it is accepted with every result cleared (STATUS reads
0x00000001), and its completion writes the HMAC-SHA1 of the key bytes and the moving factor to DIGEST, sets DV, and leaves
every operand as it was (STATUS reads 0x00000012, R114). -/
def Obligations.HmacCompletes : Prop :=
  ∀ s, s.busy = false → s.keyLen ≠ 0 → s.keyLen.toNat ≤ 128 →
    ∃ t, exec .hmac s = .next t
      ∧ t = { s with done := false, err := false, errCode := 0, digest := Vector.replicate 5 0, dv := false, offset := 0,
                     trunc := 0, tv := false, bin := 0, codeLen := 0, code := Vector.replicate 4 0, cv := false,
                     curOp := 1, curDigits := 0, busy := true }
      ∧ statusWord t = 0x00000001
      ∧ complete t = { s with done := true, err := false, errCode := 0,
                              digest := digestWords (hmacSha1 (keyBytes s) (mfBytes s)), dv := true, offset := 0,
                              trunc := 0, tv := false, bin := 0, codeLen := 0, code := Vector.replicate 4 0, cv := false,
                              curOp := 0, curDigits := 0, busy := false }
      ∧ statusWord (complete t) = 0x00000012

/-- DT in an idle state with DV = 1, whatever KEYLEN is (R134): it is accepted with DIGEST and DV kept (STATUS reads
0x00000011), and its completion writes the offset and the 31 bits at it to OFFSET and TRUNC and sets TV (STATUS reads
0x00000032, R135). -/
def Obligations.DtCompletes : Prop :=
  ∀ s, s.busy = false → s.dv = true →
    ∃ t, exec .dt s = .next t
      ∧ t = { s with done := false, err := false, errCode := 0, offset := 0, trunc := 0, tv := false, bin := 0,
                     codeLen := 0, code := Vector.replicate 4 0, cv := false, curOp := 2, curDigits := 0, busy := true }
      ∧ statusWord t = 0x00000011
      ∧ complete t = { s with done := true, err := false, errCode := 0, offset := offsetOf (digestBytes s),
                              trunc := truncOf (digestBytes s), tv := true, bin := 0, codeLen := 0,
                              code := Vector.replicate 4 0, cv := false, curOp := 0, curDigits := 0, busy := false }
      ∧ statusWord (complete t) = 0x00000032

/-- FMT with DIGITS d in an idle state with TV = 1 and d not 0 (R145): it is accepted with DIGEST, OFFSET, TRUNC and their
flags kept, and its completion writes `TRUNC mod 10^d`, d and the characters to BIN, CODELEN and CODE and sets CV (R146).
With DV = 1 as well, which TV = 1 implies in every reachable state (R35), STATUS reads 0x00000031, then 0x00000072. -/
def Obligations.FmtCompletes : Prop :=
  ∀ s d, s.busy = false → s.tv = true → d ≠ 0 →
    ∃ t, exec (.fmt d) s = .next t
      ∧ t = { s with done := false, err := false, errCode := 0, bin := 0, codeLen := 0, code := Vector.replicate 4 0,
                     cv := false, curOp := 3, curDigits := d, busy := true }
      ∧ complete t = { s with done := true, err := false, errCode := 0,
                              bin := BitVec.ofNat 31 (s.trunc.toNat % 10 ^ d.toNat), codeLen := d,
                              code := codeWords (code16 (s.trunc.toNat % 10 ^ d.toNat) d.toNat), cv := true,
                              curOp := 0, curDigits := 0, busy := false }
      ∧ (s.dv = true → statusWord t = 0x00000031 ∧ statusWord (complete t) = 0x00000072)

/-- GEN with DIGITS d in an idle state with a key of 1 to 128 bytes and d not 0, whatever DV, TV and CV are (R160): it is
accepted with every result cleared (STATUS reads 0x00000001), and its completion writes all three units' results, each
computed from the one before, and sets DV, TV and CV (STATUS reads 0x00000072, R161). -/
def Obligations.GenCompletes : Prop :=
  ∀ s d, s.busy = false → s.keyLen ≠ 0 → s.keyLen.toNat ≤ 128 → d ≠ 0 →
    ∃ t, exec (.gen d) s = .next t
      ∧ t = { s with done := false, err := false, errCode := 0, digest := Vector.replicate 5 0, dv := false, offset := 0,
                     trunc := 0, tv := false, bin := 0, codeLen := 0, code := Vector.replicate 4 0, cv := false,
                     curOp := 4, curDigits := d, busy := true }
      ∧ statusWord t = 0x00000001 ∧ statusWord (complete t) = 0x00000072
      ∧ (let digest := digestWords (hmacSha1 (keyBytes s) (mfBytes s))
         let trunc := truncOf (packedBytes digest.toList)
         complete t = { s with done := true, err := false, errCode := 0, digest := digest, dv := true,
                               offset := offsetOf (packedBytes digest.toList), trunc := trunc, tv := true,
                               bin := BitVec.ofNat 31 (trunc.toNat % 10 ^ d.toNat), codeLen := d,
                               code := codeWords (code16 (trunc.toNat % 10 ^ d.toNat) d.toNat), cv := true,
                               curOp := 0, curDigits := 0, busy := false })

/-- ZERO in every idle state (R163): it is accepted with every result cleared and the operands kept (STATUS reads
0x00000001), and its completion leaves the reset state but for DONE = 1 (R164). The model's own two fields are kept. -/
def Obligations.ZeroCompletes : Prop :=
  ∀ s, s.busy = false →
    ∃ t, exec .zero s = .next t
      ∧ t = { s with done := false, err := false, errCode := 0, digest := Vector.replicate 5 0, dv := false, offset := 0,
                     trunc := 0, tv := false, bin := 0, codeLen := 0, code := Vector.replicate 4 0, cv := false,
                     curOp := 5, curDigits := 0, busy := true }
      ∧ statusWord t = 0x00000001
      ∧ complete t = { State.reset with done := true, pending := s.pending, replies := s.replies }
      ∧ statusWord (complete t) = 0x00000002 ∧ ∀ a, a ≠ 0x02 → regRead a (complete t) = 0

/-! ### Rejection -/

/-- R183 and R184: HMAC and GEN written while idle are rejected with code 2 when KEYLEN = 0 and with code 3 when KEYLEN is
in 129..255, whatever DIGITS is. -/
def Obligations.KeyErrorsReject : Prop :=
  ∀ s, s.busy = false →
    (s.keyLen = 0 → exec .hmac s = .next { s with done := false, err := true, errCode := 2 }
      ∧ ∀ d, exec (.gen d) s = .next { s with done := false, err := true, errCode := 2 })
    ∧ (129 ≤ s.keyLen.toNat → exec .hmac s = .next { s with done := false, err := true, errCode := 3 }
      ∧ ∀ d, exec (.gen d) s = .next { s with done := false, err := true, errCode := 3 })

/-- R185: DT with DV = 0 and FMT with TV = 0 written while idle are rejected with code 4, whatever DIGITS is, and GEN,
HMAC and ZERO never are. -/
def Obligations.SequenceErrorsReject : Prop :=
  (∀ s, s.busy = false → s.dv = false → exec .dt s = .next { s with done := false, err := true, errCode := 4 })
    ∧ (∀ s d, s.busy = false → s.tv = false →
        exec (.fmt d) s = .next { s with done := false, err := true, errCode := 4 })
    ∧ ∀ s d, check .hmac s ≠ some .seq ∧ check (.gen d) s ≠ some .seq ∧ check .zero s ≠ some .seq

/-- R186: with DIGITS = 0, FMT with TV = 1 and GEN with a good key are rejected with code 5; a DIGITS of 1 to 15 never
is. -/
def Obligations.DigitsErrorRejects : Prop :=
  (∀ s, s.busy = false → s.tv = true → exec (.fmt 0) s = .next { s with done := false, err := true, errCode := 5 })
    ∧ (∀ s, s.busy = false → s.keyLen ≠ 0 → s.keyLen.toNat ≤ 128 →
        exec (.gen 0) s = .next { s with done := false, err := true, errCode := 5 })
    ∧ ∀ s d, d ≠ 0 → check (.fmt d) s ≠ some .digits ∧ check (.gen d) s ≠ some .digits

/-- R187: of the causes that apply to a word written while idle, the one with the lowest code is reported, and only that
one; where none applies the command is accepted. -/
def Obligations.LowestErrorCodeWins : Prop :=
  ∀ s w, s.busy = false → ∃ t, regWrite cmdIndex w s = .next t
    ∧ (∀ e, causeApplies w s e → (∀ e', causeApplies w s e' → e.code.toNat ≤ e'.code.toNat) →
        t.err = true ∧ t.errCode = e.code ∧ t.busy = false)
    ∧ ((∀ e, ¬causeApplies w s e) → t.err = false ∧ t.errCode = 0 ∧ t.busy = true)

/-- R188 and R189: a rejected word, illegal or a command that fails a check, writes exactly DONE, ERR and ERRCODE; every
other piece of state is as before the write, and so is what every index but STATUS reads. The engine stays idle. -/
def Obligations.RejectionIsPrecise : Prop :=
  ∀ w s e, s.busy = false →
    ((∃ why, decode w = .illegal why) ∧ e = .illegalCmd ∨ ∃ i, decode w = .legal i ∧ check i s = some e) →
    ∃ t, regWrite cmdIndex w s = .next t ∧ t.done = false ∧ t.err = true ∧ t.errCode = e.code ∧ t.busy = false
      ∧ t.key = s.key ∧ t.keyLen = s.keyLen ∧ t.mfHi = s.mfHi ∧ t.mfLo = s.mfLo ∧ t.digest = s.digest
      ∧ t.offset = s.offset ∧ t.trunc = s.trunc ∧ t.bin = s.bin ∧ t.codeLen = s.codeLen ∧ t.code = s.code
      ∧ t.dv = s.dv ∧ t.tv = s.tv ∧ t.cv = s.cv ∧ t.curOp = s.curOp ∧ t.curDigits = s.curDigits
      ∧ t.pending = s.pending ∧ t.replies = s.replies ∧ ∀ a, a ≠ 0x02 → regRead a t = regRead a s

/-- R190: ERR and ERRCODE stay as set until the next write to CMD made while idle or until reset. That write clears them
before it is checked, whatever they were: where the word is a command that passes its check they are 0 afterwards and the
engine is busy; where it is illegal or fails the check with e, ERR is 1, ERRCODE is the code of that e and the engine is
idle. -/
def Obligations.ErrorStandsUntilNextCommand : Prop :=
  (∀ x s t, perform x s = .next t → ¬(s.busy = false ∧ ∃ w, x = .host (.regWrite cmdIndex w)) → x ≠ .reset →
      t.err = s.err ∧ t.errCode = s.errCode)
    ∧ (∀ s t w, perform (.host (.regWrite cmdIndex w)) s = .next t → s.busy = false →
        t.done = false
        ∧ ((∃ i, decode w = .legal i ∧ check i s = none) → t.err = false ∧ t.errCode = 0 ∧ t.busy = true)
        ∧ ∀ e : ErrCode,
            ((∃ why, decode w = .illegal why) ∧ e = .illegalCmd ∨ ∃ i, decode w = .legal i ∧ check i s = some e) →
            t.err = true ∧ t.errCode = e.code ∧ t.busy = false)
    ∧ ∀ s t, perform .reset s = .next t → t.err = false ∧ t.errCode = 0

/-- R203 (marked derived): what each word does as the first command after reset. -/
def Obligations.FirstCommandAfterReset : Prop :=
  regWrite cmdIndex 0x00000001 State.reset = .next { State.reset with err := true, errCode := 2 }
    ∧ (∀ d : BitVec 4, regWrite cmdIndex (encode (.gen d)) State.reset = .next { State.reset with err := true, errCode := 2 })
    ∧ regWrite cmdIndex 0x00000002 State.reset = .next { State.reset with err := true, errCode := 4 }
    ∧ (∀ d : BitVec 4, regWrite cmdIndex (encode (.fmt d)) State.reset = .next { State.reset with err := true, errCode := 4 })
    ∧ (∀ w why, decode w = .illegal why →
        regWrite cmdIndex w State.reset = .next { State.reset with err := true, errCode := 1 })
    ∧ ∃ t, regWrite cmdIndex 0x00000005 State.reset = .next t ∧ statusWord t = 0x00000001
        ∧ complete t = { State.reset with done := true }

/-! ### What stays unchanged -/

/-- The frame of a command's CMD write, for all five commands: KEY, KEYLEN, MF_HI and MF_LO are unchanged, and what every
index above the results and KEYLEN, MF_HI, MF_LO reads; DT keeps DIGEST and DV; FMT keeps DIGEST, OFFSET, TRUNC, DV and TV
(R90's last sentence); a command that finds the engine busy changes nothing (R55). -/
def Obligations.CommandWriteFrame : Prop :=
  (∀ i s t, exec i s = .next t → t.key = s.key ∧ t.keyLen = s.keyLen ∧ t.mfHi = s.mfHi ∧ t.mfLo = s.mfLo
      ∧ t.pending = s.pending ∧ t.replies = s.replies
      ∧ (∀ a : BitVec 6, a.toNat ≠ 2 → (a.toNat < 6 ∨ 0x15 ≤ a.toNat) → regRead a t = regRead a s)
      ∧ (s.busy = true → t = s))
    ∧ (∀ s t, exec .dt s = .next t → t.digest = s.digest ∧ t.dv = s.dv
        ∧ ∀ a : BitVec 6, 0x10 ≤ a.toNat → regRead a t = regRead a s)
    ∧ ∀ d s t, exec (.fmt d) s = .next t → t.digest = s.digest ∧ t.dv = s.dv ∧ t.offset = s.offset ∧ t.trunc = s.trunc
        ∧ t.tv = s.tv ∧ ∀ a : BitVec 6, (a = 0x06 ∨ a = 0x07 ∨ 0x10 ≤ a.toNat) → regRead a t = regRead a s

/-- The frame of the completion step, by the command in progress (R114, R135, R146, R161, R164): which registers and which
flags it leaves as they were, and which indices read as before. -/
def Obligations.CompletionFrame : Prop :=
  ∀ s, s.busy = true →
    let t := complete s
    t.err = s.err ∧ t.errCode = s.errCode ∧ t.pending = s.pending ∧ t.replies = s.replies
    ∧ (s.curOp ≠ 5 → t.key = s.key ∧ t.keyLen = s.keyLen ∧ t.mfHi = s.mfHi ∧ t.mfLo = s.mfLo)
    ∧ (s.curOp = 1 → t.offset = s.offset ∧ t.trunc = s.trunc ∧ t.bin = s.bin ∧ t.codeLen = s.codeLen ∧ t.code = s.code
        ∧ t.tv = s.tv ∧ t.cv = s.cv ∧ ∀ a : BitVec 6, a ≠ 0x02 → (a.toNat < 0x10 ∨ 0x14 < a.toNat) → regRead a t = regRead a s)
    ∧ (s.curOp = 2 → t.digest = s.digest ∧ t.dv = s.dv ∧ t.bin = s.bin ∧ t.codeLen = s.codeLen ∧ t.code = s.code
        ∧ t.cv = s.cv ∧ ∀ a : BitVec 6, a ≠ 0x02 → a ≠ 0x06 → a ≠ 0x07 → regRead a t = regRead a s)
    ∧ (s.curOp = 3 → t.digest = s.digest ∧ t.dv = s.dv ∧ t.offset = s.offset ∧ t.trunc = s.trunc ∧ t.tv = s.tv
        ∧ ∀ a : BitVec 6, (a.toNat = 1 ∨ 3 ≤ a.toNat ∧ a.toNat ≤ 7 ∨ 0x10 ≤ a.toNat) → regRead a t = regRead a s)
    ∧ (s.curOp = 5 → t.digest = s.digest ∧ t.dv = s.dv ∧ t.offset = s.offset ∧ t.trunc = s.trunc ∧ t.tv = s.tv
        ∧ t.bin = s.bin ∧ t.codeLen = s.codeLen ∧ t.code = s.code ∧ t.cv = s.cv)

/-- R40 (marked derived): over one step of any agent, the operands change only by an idle host write to one of them, by
completion of ZERO and by reset; the results and DV, TV, CV only by an idle write to CMD of a command that is accepted, by
completion and by reset; BUSY, DONE, ERR, ERRCODE, CUR_OP, CUR_DIGITS only by an idle write to CMD, by completion and by
reset. -/
def Obligations.OnlyTheseActionsChangeState : Prop :=
  ∀ s t, step s = .next t →
    ((t.key, t.keyLen, t.mfHi, t.mfLo) ≠ (s.key, s.keyLen, s.mfHi, s.mfLo) →
        (s.busy = false ∧ ∃ a v, operandIndex a ∧ s.writeTurn a v)
          ∨ (s.busy = true ∧ s.engineTurn ∧ s.curOp = 5) ∨ s.resetTurn)
    ∧ ((t.digest, t.offset, t.trunc, t.bin, t.codeLen, t.code, t.dv, t.tv, t.cv)
          ≠ (s.digest, s.offset, s.trunc, s.bin, s.codeLen, s.code, s.dv, s.tv, s.cv) →
        (s.busy = false ∧ ∃ w i, s.writeTurn cmdIndex w ∧ decode w = .legal i ∧ check i s = none)
          ∨ (s.busy = true ∧ s.engineTurn) ∨ s.resetTurn)
    ∧ ((t.busy, t.done, t.err, t.errCode, t.curOp, t.curDigits)
          ≠ (s.busy, s.done, s.err, s.errCode, s.curOp, s.curDigits) →
        (s.busy = false ∧ ∃ w, s.writeTurn cmdIndex w) ∨ (s.busy = true ∧ s.engineTurn) ∨ s.resetTurn)

/-- KEY reaches the host only through HMAC and GEN (R22, R194): a step other than the completion of one of these two, taken
from two states that differ in KEY alone, leaves two states that differ in KEY alone; so every reply is the same. -/
def Obligations.KeyIsUnreadable : Prop :=
  ∀ s (k : Vector Word 32) t, step s = .next t →
    ¬(s.busy = true ∧ s.engineTurn ∧ (s.curOp = 1 ∨ s.curOp = 4)) →
    ∃ u, step { s with key := k } = .next u ∧ u = { t with key := u.key }

/-- R110: the key a command uses is the first KEYLEN bytes of the KEY buffer, byte i of it in word i div 4 at bits
31-8*(i mod 4) down to 24-8*(i mod 4); and no other byte of KEY has an influence on what a command other than ZERO
completes with: replacing KEY by another buffer with the same first KEYLEN bytes changes KEY alone. -/
def Obligations.KeyBytesInUse : Prop :=
  (∀ s, s.keyLen.toNat ≤ 128 → (keyBytes s).length = s.keyLen.toNat
      ∧ ∀ i (h : i < 128), i < s.keyLen.toNat →
          (keyBytes s)[i]? = some ((s.key[i / 4]'(by omega)).extractLsb' (24 - 8 * (i % 4)) 8))
    ∧ ∀ s (k : Vector Word 32), (∀ i (h : i < 128), i < s.keyLen.toNat →
          (k[i / 4]'(by omega)).extractLsb' (24 - 8 * (i % 4)) 8
            = (s.key[i / 4]'(by omega)).extractLsb' (24 - 8 * (i % 4)) 8) →
        s.curOp ≠ 5 → complete { s with key := k } = { complete s with key := k }

/-- R111: the message hashed is the moving factor `MF_HI * 2^32 + MF_LO` as 8 big-endian bytes, those of MF_HI and then
those of MF_LO, leading zero bytes included. -/
def Obligations.MovingFactorBytes : Prop :=
  ∀ s, (mfBytes s).length = 8 ∧ (movingFactor s).toNat = s.mfHi.toNat * 2 ^ 32 + s.mfLo.toNat
    ∧ mfBytes s = bytesBE (movingFactor s).toNat 8
    ∧ mfBytes s = bytesBE s.mfHi.toNat 4 ++ bytesBE s.mfLo.toNat 4
    ∧ ((movingFactor s).toNat = 1 → mfBytes s = [0, 0, 0, 0, 0, 0, 0, 1])
    ∧ ∀ i, i < 8 → ((mfBytes s).getD i 0).toNat = (movingFactor s).toNat / 2 ^ (8 * (7 - i)) % 256

/-! ### The three units as functions -/

/-- R101: the padded message is the message, 0x80, the least number of zero bytes that makes the total a multiple of 64,
and the length in bits; its length is `64 * ((L + 8) div 64 + 1)`; and for the lengths the engine hashes it is as listed. -/
def Obligations.PaddingLength : Prop :=
  (∀ msg, msg.length < 2 ^ 61 → ∃ k, pad msg = msg ++ [0x80] ++ List.replicate k 0 ++ bytesBE (8 * msg.length) 8
      ∧ (msg.length + 1 + k + 8) % 64 = 0 ∧ (∀ j, (msg.length + 1 + j + 8) % 64 = 0 → k ≤ j)
      ∧ (k : Int) = (55 - (msg.length : Int)) % 64
      ∧ (pad msg).length = 64 * ((msg.length + 8) / 64 + 1))
    ∧ (∀ msg, msg.length = 72 ∨ msg.length = 84 ∨ 65 ≤ msg.length ∧ msg.length ≤ 119 → (pad msg).length = 128)
    ∧ ∀ msg, 120 ≤ msg.length ∧ msg.length ≤ 128 → (pad msg).length = 192

/-- R103: the schedule has 80 words, the first sixteen are the block's own words, and each later word is the recurrence on
the words 3, 8, 14 and 16 before it. -/
def Obligations.ScheduleRecurrence : Prop :=
  ∀ block, (schedule block).length = 80 ∧ (∀ t, t < 16 → (schedule block).getD t 0 = beWord block (4 * t))
    ∧ ∀ t, 16 ≤ t → t < 80 →
        (schedule block).getD t 0
          = rotl ((schedule block).getD (t - 3) 0 ^^^ (schedule block).getD (t - 8) 0
              ^^^ (schedule block).getD (t - 14) 0 ^^^ (schedule block).getD (t - 16) 0) 1

/-- R104 and R105: the compression is eighty rounds, number t with the round function and the constant of its range and the
schedule's word t, each from the old a to e, and then the five sums modulo 2^32. -/
def Obligations.CompressionIsEightyRounds : Prop :=
  ∀ (h : Chain) (block : List Byte),
    let f : Nat → Word → Word → Word → Word := fun t b c d =>
      if t ≤ 19 then (b &&& c) ||| (~~~b &&& d)
      else if t ≤ 39 ∨ 60 ≤ t then b ^^^ c ^^^ d
      else (b &&& c) ||| (b &&& d) ||| (c &&& d)
    let k : Nat → Word := fun t =>
      if t ≤ 19 then 0x5A827999 else if t ≤ 39 then 0x6ED9EBA1 else if t ≤ 59 then 0x8F1BBCDC else 0xCA62C1D6
    let x := (List.range 80).foldl (fun (x : Chain) t =>
      (⟨rotl x.a 5 + f t x.b x.c x.d + x.e + k t + (schedule block).getD t 0, x.a, rotl x.b 30, x.c, x.d⟩ : Chain)) h
    compress h block = ⟨h.a + x.a, h.b + x.b, h.c + x.c, h.d + x.d, h.e + x.e⟩

/-- R106: the hash is the five chaining words left by compressing the 64-byte blocks of the padded message in order,
starting from the initial value, it is 20 bytes long, and it has the two known values. -/
def Obligations.HashOverBlocks : Prop :=
  (∀ msg, let h := (List.range ((pad msg).length / 64)).foldl
            (fun h i => compress h (((pad msg).drop (64 * i)).take 64)) chainInit
    sha1 msg = bytesBE h.a.toNat 4 ++ bytesBE h.b.toNat 4 ++ bytesBE h.c.toNat 4 ++ bytesBE h.d.toNat 4
        ++ bytesBE h.e.toNat 4
    ∧ (sha1 msg).length = 20)
    ∧ sha1 [] = bytesBE 0xda39a3ee5e6b4b0d3255bfef95601890afd80709 20
    ∧ sha1 [0x61, 0x62, 0x63] = bytesBE 0xa9993e364706816aba3e25717850c26c9cd0d89d 20

/-- R108: the key block is 64 bytes: the key and zero bytes when it has at most 64 bytes, its hash and 44 zero bytes when
it is longer; so keys of at most 64 bytes that differ only by trailing zero bytes give the same digest. -/
def Obligations.KeyBlockAndTrailingZeros : Prop :=
  (∀ key, (keyBlock key).length = 64)
    ∧ (∀ key, key.length ≤ 64 → keyBlock key = key ++ List.replicate (64 - key.length) 0)
    ∧ (∀ key, 64 < key.length → keyBlock key = sha1 key ++ List.replicate 44 0)
    ∧ ∀ key n, key.length + n ≤ 64 → keyBlock (key ++ List.replicate n 0) = keyBlock key
        ∧ ∀ msg, hmacSha1 (key ++ List.replicate n 0) msg = hmacSha1 key msg

/-- R109: the HMAC is the hash of the key block xor 0x5C followed by the hash of the key block xor 0x36 and the message; it
has 20 bytes, and for the moving factor's 8 bytes the two hashed messages have 72 and 84. -/
def Obligations.HmacConstruction : Prop :=
  ∀ key msg, let k0 := keyBlock key
    let inner := sha1 (k0.map (· ^^^ 0x36) ++ msg)
    hmacSha1 key msg = sha1 (k0.map (· ^^^ 0x5C) ++ inner) ∧ (hmacSha1 key msg).length = 20
    ∧ (k0.map (· ^^^ (0x5C : Byte)) ++ inner).length = 84
    ∧ (msg.length = 8 → (k0.map (· ^^^ (0x36 : Byte)) ++ msg).length = 72)

/-- R115 (marked derived): the number of compressions of one HMAC over an 8-byte message: two for the inner hash, two for
the outer hash, and for a key longer than a block two more, or three from 120 bytes on. -/
def Obligations.CompressionCount : Prop :=
  ∀ key msg, msg.length = 8 →
    blockCount (xorEach 0x36 (keyBlock key) ++ msg) = 2 ∧ blockCount (outerMessage key msg) = 2
    ∧ (65 ≤ key.length → key.length ≤ 119 → blockCount key = 2)
    ∧ (120 ≤ key.length → key.length ≤ 128 → blockCount key = 3)

/-- R117: DIGEST[j] is BE32 of digest bytes 4j..4j+3, which is chaining word Hj of the outer hash; and the DIGEST registers
hold the 20 bytes of the digest unchanged. -/
def Obligations.DigestRegistersHoldHash : Prop :=
  (∀ key msg, let h := sha1Chain (outerMessage key msg)
      digestWords (hmacSha1 key msg) = #v[h.a, h.b, h.c, h.d, h.e])
    ∧ (∀ bs j (_ : j < 5), (digestWords bs)[j] = beWord bs (4 * j))
    ∧ ∀ s bs, bs.length = 20 → s.digest = digestWords bs → digestBytes s = bs

/-- R130 and R131: the offset is the low four bits of the last digest byte, and the extraction is the masked BE32 of the
four bytes there, equal to the sum with bit 7 of the first byte discarded. -/
def Obligations.TruncationIsMaskedBigEndian : Prop :=
  ∀ d : List Byte, d.length = 20 →
    (offsetOf d).toNat = (byteAt d 19).toNat % 16
    ∧ let o := (byteAt d 19).toNat % 16
      (truncOf d).toNat = (beWord d o &&& 0x7FFFFFFF).toNat
      ∧ (truncOf d).toNat = (byteAt d o &&& 0x7F).toNat * 2 ^ 24 + (byteAt d (o + 1)).toNat * 2 ^ 16
          + (byteAt d (o + 2)).toNat * 2 ^ 8 + (byteAt d (o + 3)).toNat

/-- R133 (marked derived): in terms of the DIGEST registers, OFFSET is DIGEST[4][3:0] and the four bytes are the 32 bits
starting 8*r bits below the top of `DIGEST[q] * 2^32 + DIGEST[q+1]`, with q and r the quotient and remainder of the offset
by 4. -/
def Obligations.TruncationFromRegisters : Prop :=
  ∀ s, let o := (offsetOf (digestBytes s)).toNat
    offsetOf (digestBytes s) = s.digest[4].extractLsb' 0 4
    ∧ (beWord (digestBytes s) o).toNat
        = ((s.digest.toList.getD (o / 4) 0).toNat * 2 ^ 32 + (s.digest.toList.getD (o / 4 + 1) 0).toNat)
            / 2 ^ (32 - 8 * (o % 4)) % 2 ^ 32

/-- R136 and R132 (marked derived): the truncation depends only on the low nibble of the last byte and on the four bytes at
the offset less the top bit, and these lie in bytes 0 to 18. -/
def Obligations.TruncationDependsOnFiveBytes : Prop :=
  (∀ d : List Byte, (offsetOf d).toNat + 3 ≤ 18)
    ∧ ∀ d e : List Byte, byteAt d 19 &&& 0x0F = byteAt e 19 &&& 0x0F →
        (let o := (byteAt d 19).toNat % 16
         byteAt d o &&& 0x7F = byteAt e o &&& 0x7F ∧ byteAt d (o + 1) = byteAt e (o + 1)
          ∧ byteAt d (o + 2) = byteAt e (o + 2) ∧ byteAt d (o + 3) = byteAt e (o + 3)) →
        offsetOf d = offsetOf e ∧ truncOf d = truncOf e

/-- R142 (marked derived): for ten digits and more the reduction changes nothing, and for every number of digits the result
fits the 31 bits of BIN. -/
def Obligations.ReductionFitsBin : Prop :=
  ∀ (t : BitVec 31) d, (10 ≤ d → binOf t.toNat d = t.toNat) ∧ binOf t.toNat d < 2 ^ 31
    ∧ (BitVec.ofNat 31 (binOf t.toNat d)).toNat = t.toNat % 10 ^ d

/-- R143: the characters of b at d digits are d ASCII digits, character k the digit `(b div 10^(d-1-k)) mod 10`, and for
`b < 10^d` the digits are the whole of b; b = 0 gives d characters '0'. -/
def Obligations.CharactersAreAllDigits : Prop :=
  (∀ b d, (charsOf b d).length = d ∧ ∀ k, k < d →
      ((charsOf b d).getD k 0).toNat = 0x30 + b / 10 ^ (d - 1 - k) % 10
      ∧ 0x30 ≤ ((charsOf b d).getD k 0).toNat ∧ ((charsOf b d).getD k 0).toNat ≤ 0x39)
    ∧ (∀ b d, b < 10 ^ d →
        ((List.range d).map fun k => (((charsOf b d).getD k 0).toNat - 0x30) * 10 ^ (d - 1 - k)).sum = b)
    ∧ ∀ d, charsOf 0 d = List.replicate d 0x30

/-- R144: after the formatting at d characters, d in 1..15, the CODE buffer holds the d characters of `TRUNC mod 10^d` and
then zero bytes, the last byte 0x00; words from position d on are zero; CODELEN is d. -/
def Obligations.CodeBufferHoldsCharacters : Prop :=
  ∀ s (d : BitVec 4), d ≠ 0 →
    let t := doFmt d s
    codeBytes t = charsOf (s.trunc.toNat % 10 ^ d.toNat) d.toNat ++ List.replicate (16 - d.toNat) 0
    ∧ byteAt (codeBytes t) 15 = 0 ∧ (∀ j (_ : j < 4), d.toNat ≤ 4 * j → t.code[j] = 0) ∧ t.codeLen = d
    ∧ codeString t = charsOf (s.trunc.toNat % 10 ^ d.toNat) d.toNat

/-- R148 (marked derived): the code at d1 characters is the last d1 characters of the code at d2 characters, d1 < d2. -/
def Obligations.ShorterCodeIsSuffix : Prop :=
  ∀ t d1 d2, d1 < d2 → binOf t d1 = binOf t d2 % 10 ^ d1
    ∧ charsOf (binOf t d1) d1 = (charsOf (binOf t d2) d2).drop (d2 - d1)

/-! ### Whole commands -/

/-- R2: from an idle state with a key of 1 to 128 bytes and d not 0, GEN completes with the digest, the offset, the
truncated value, the number and the code string of the function the engine computes. -/
def Obligations.GenDeliversTruncatedCode : Prop :=
  ∀ s d, s.busy = false → s.keyLen ≠ 0 → s.keyLen.toNat ≤ 128 → d ≠ 0 →
    ∃ t, exec (.gen d) s = .next t
      ∧ (let u := complete t
         let digest := hmacSha1 (keyBytes s) (bytesBE (s.mfHi.toNat * 2 ^ 32 + s.mfLo.toNat) 8)
         let offset := (byteAt digest 19 &&& 0x0F).toNat
         let trunc := (beWord digest offset &&& 0x7FFFFFFF).toNat
         digestBytes u = digest ∧ u.offset.toNat = offset ∧ u.trunc.toNat = trunc
          ∧ u.bin.toNat = trunc % 10 ^ d.toNat ∧ codeString u = charsOf (trunc % 10 ^ d.toNat) d.toNat
          ∧ (codeString u).length = d.toNat
          ∧ codeString u = truncatedCode (keyBytes s) (movingFactor s) d.toNat)

/-- R162 (marked derived): from any idle state with a key of 1 to 128 bytes, GEN with a wait ends in the same state as
HMAC, DT and FMT with a wait after each, for every d in 1..15. -/
def Obligations.GenEqualsThreeCommands : Prop :=
  ∀ (s : State) d rest, s.busy = false → s.keyLen ≠ 0 → s.keyLen.toNat ≤ 128 → d ≠ 0 →
    ∃ t, Host.Core.run core 2 (s.withPending (cmd (.gen d) :: .engine :: rest)) = .next t
      ∧ Host.Core.run core 6 (s.withPending (cmd .hmac :: .engine :: cmd .dt :: .engine :: cmd (.fmt d) :: .engine :: rest))
          = .next t
      ∧ t.pending = rest ∧ statusWord t = 0x00000072

/-- R3 (marked derived) and R116: the results of HMAC, of DT and FMT, and of GEN depend only on the command and on its
operand registers as they stood at acceptance, whatever else the two states hold; and HMAC changes no operand. -/
def Obligations.ResultsDependOnOperandsOnly : Prop :=
  (∀ s s' t t', keyBytes s = keyBytes s' → s.mfHi = s'.mfHi → s.mfLo = s'.mfLo →
      s.busy = false → s'.busy = false → check .hmac s = none → check .hmac s' = none →
      exec .hmac s = .next t → exec .hmac s' = .next t' →
      (complete t).digest = (complete t').digest ∧ statusWord (complete t) = statusWord (complete t')
        ∧ (complete t).key = s.key ∧ (complete t).keyLen = s.keyLen ∧ (complete t).mfHi = s.mfHi
        ∧ (complete t).mfLo = s.mfLo)
    ∧ (∀ s s' d t t', keyBytes s = keyBytes s' → s.mfHi = s'.mfHi → s.mfLo = s'.mfLo →
        s.busy = false → s'.busy = false → check (.gen d) s = none → check (.gen d) s' = none →
        exec (.gen d) s = .next t → exec (.gen d) s' = .next t' →
        ∀ a : BitVec 6, a.toNat ≠ 3 → regRead a (complete t) = regRead a (complete t'))
    ∧ (∀ s s' t t', s.digest = s'.digest → s.busy = false → s'.busy = false → s.dv = true → s'.dv = true →
        exec .dt s = .next t → exec .dt s' = .next t' →
        (complete t).offset = (complete t').offset ∧ (complete t).trunc = (complete t').trunc)
    ∧ ∀ s s' d t t', s.trunc = s'.trunc → s.busy = false → s'.busy = false → s.tv = true → s'.tv = true → d ≠ 0 →
        exec (.fmt d) s = .next t → exec (.fmt d) s' = .next t' →
        (complete t).bin = (complete t').bin ∧ (complete t).codeLen = (complete t').codeLen
          ∧ (complete t).code = (complete t').code

/-! ### Reset, invariants, progress -/

/-- R39 and R201: after reset every piece of state of R21 is zero, so every index reads 0 and the engine is idle. -/
def Obligations.ResetLeavesZero : Prop :=
  State.reset.key = Vector.replicate 32 0 ∧ State.reset.keyLen = 0 ∧ State.reset.mfHi = 0 ∧ State.reset.mfLo = 0
    ∧ State.reset.digest = Vector.replicate 5 0 ∧ State.reset.offset = 0 ∧ State.reset.trunc = 0 ∧ State.reset.bin = 0
    ∧ State.reset.codeLen = 0 ∧ State.reset.code = Vector.replicate 4 0 ∧ State.reset.busy = false
    ∧ State.reset.done = false ∧ State.reset.err = false ∧ State.reset.dv = false ∧ State.reset.tv = false
    ∧ State.reset.cv = false ∧ State.reset.errCode = 0 ∧ State.reset.curOp = 0 ∧ State.reset.curDigits = 0
    ∧ ∀ a, regRead a State.reset = 0

/-- R201 and R202: the reset action, in any state, busy or idle, leaves every piece of state at its reset value and every
index reading 0; a command in progress is abandoned, its completion step is no longer enabled, and no partial result
appears; and nothing but completion and reset ends a command. -/
def Obligations.ResetAbandonsCommand : Prop :=
  (∀ s, ∃ t, perform .reset s = .next t
      ∧ t.engineOnly = State.reset ∧ t.busy = false ∧ complete t = t ∧ ∀ a, regRead a t = 0)
    ∧ ∀ x s t, s.busy = true → perform x s = .next t → t.busy = false → x = .engine ∨ x = .reset

/-- The invariant, R35 with what a busy state holds beside it, has its beginning: reset meets it. -/
def Obligations.InvariantAtReset : Prop := State.reset.Inv

/-- The invariant, R35 with what a busy state holds beside it, is kept by every step of every agent. -/
def Obligations.StepKeepsInvariant : Prop :=
  ∀ s t, s.Inv → step s = .next t → t.Inv

/-- R35 (marked derived): its seven items hold in every state that any order of host transactions, completion steps and
reset actions leads to from reset. -/
def Obligations.ReachableStatesMeetRule35 : Prop :=
  ∀ t : State, t.reachable → t.Rule35

/-- R219 and R55: a busy engine completes. In every order of actions without a reset, after finitely many other actions it
is the ENGINE's turn with the engine as it was, busy with the same command on the same operands, and that step clears BUSY
and sets DONE (that the list of actions is finite, and the ENGINE's turn when it is used up, are log entries 1 and 2). -/
def Obligations.BusyEngineCompletes : Prop :=
  ∀ s : State, s.busy = true → .reset ∉ s.pending →
    ∃ n u t, n ≤ s.pending.length ∧ Host.Core.run core n s = .next u ∧ u.engineOnly = s.engineOnly ∧ u.engineTurn
      ∧ step u = .next t ∧ t.engineOnly = (complete s).engineOnly ∧ t.busy = false ∧ t.done = true

/-- R214 and R54: rewriting an operand after a command changes no result, no flag and no error, and the results stay
readable as they were. -/
def Obligations.ResultsOutliveOperandWrites : Prop :=
  ∀ s t a v, s.writeTurn a v → a ≠ cmdIndex → step s = .next t →
    t.digest = s.digest ∧ t.offset = s.offset ∧ t.trunc = s.trunc ∧ t.bin = s.bin ∧ t.codeLen = s.codeLen
    ∧ t.code = s.code ∧ statusWord t = statusWord s
    ∧ ∀ b : BitVec 6, (b.toNat < 3 ∨ 6 ≤ b.toNat) → regRead b t = regRead b s
end

