-- ==== Sys2Proof/Laws/Bytes.lean ====
section
/-! SUPPORT. Words and byte sequences: lengths, the byte at a position, and that packing and unpacking undo each other. -/

namespace Sys2Proof.Machine

@[simp] theorem wordBytes_length (w : Word) : (wordBytes w).length = 4 := rfl

@[simp] theorem bytesBE_length (v n : Nat) : (bytesBE v n).length = n := by simp [bytesBE]

@[simp] theorem packedBytes_nil : packedBytes [] = [] := rfl

theorem packedBytes_cons (w : Word) (ws : List Word) : packedBytes (w :: ws) = wordBytes w ++ packedBytes ws := rfl

@[simp] theorem packedBytes_length (ws : List Word) : (packedBytes ws).length = 4 * ws.length := by
  induction ws with
  | nil => rfl
  | cons w ws ih => rw [packedBytes_cons, List.length_append, ih, wordBytes_length, List.length_cons]; omega

/-- The value of `BE32` (00_scope.md section 5). -/
theorem be32_toNat (b0 b1 b2 b3 : Byte) :
    (be32 b0 b1 b2 b3).toNat = b0.toNat * 2 ^ 24 + b1.toNat * 2 ^ 16 + b2.toNat * 2 ^ 8 + b3.toNat := by
  have h0 := b0.isLt; have h1 := b1.isLt; have h2 := b2.isLt; have h3 := b3.isLt
  simp only [be32, BitVec.toNat_append, Nat.shiftLeft_eq]
  rw [Nat.mul_comm b0.toNat, ← Nat.two_pow_add_eq_or_of_lt h1, Nat.mul_comm (2 ^ 8 * b0.toNat + b1.toNat),
    ← Nat.two_pow_add_eq_or_of_lt h2, Nat.mul_comm (2 ^ 8 * (2 ^ 8 * b0.toNat + b1.toNat) + b2.toNat),
    ← Nat.two_pow_add_eq_or_of_lt h3]
  omega

/-- The four bytes of `BE32` are the four bytes it was made of. -/
theorem wordBytes_be32 (b0 b1 b2 b3 : Byte) : wordBytes (be32 b0 b1 b2 b3) = [b0, b1, b2, b3] := by
  have h0 := b0.isLt; have h1 := b1.isLt; have h2 := b2.isLt; have h3 := b3.isLt
  simp only [wordBytes, List.cons.injEq, and_true]
  refine ⟨?_, ?_, ?_, ?_⟩ <;> apply BitVec.eq_of_toNat_eq <;>
    simp only [BitVec.extractLsb'_toNat, be32_toNat, Nat.shiftRight_eq_div_pow] <;> omega

/-- `BE32` of a word's four bytes is the word. -/
theorem be32_wordBytes (w : Word) :
    be32 (w.extractLsb' 24 8) (w.extractLsb' 16 8) (w.extractLsb' 8 8) (w.extractLsb' 0 8) = w := by
  have h := w.isLt
  apply BitVec.eq_of_toNat_eq
  simp only [be32, BitVec.toNat_append, Nat.shiftLeft_eq, BitVec.extractLsb'_toNat, Nat.shiftRight_eq_div_pow]
  rw [Nat.mul_comm _ (2 ^ 8), ← Nat.two_pow_add_eq_or_of_lt (by omega), Nat.mul_comm _ (2 ^ 8),
    ← Nat.two_pow_add_eq_or_of_lt (by omega), Nat.mul_comm _ (2 ^ 8), ← Nat.two_pow_add_eq_or_of_lt (by omega)]
  omega

/-- Byte number i of a packed buffer is in word `i div 4`, at bits `31-8*(i mod 4)` down to `24-8*(i mod 4)` (R57). -/
theorem packedBytes_getElem? (ws : List Word) (i : Nat) :
    (packedBytes ws)[i]? = (ws[i / 4]?).map fun w => w.extractLsb' (24 - 8 * (i % 4)) 8 := by
  induction ws generalizing i with
  | nil => simp
  | cons w ws ih =>
    rw [packedBytes_cons, List.getElem?_append, wordBytes_length]
    by_cases h : i < 4
    · rw [if_pos h]
      obtain rfl | rfl | rfl | rfl : i = 0 ∨ i = 1 ∨ i = 2 ∨ i = 3 := by omega
      all_goals rfl
    · rw [if_neg h, ih]
      have e : i / 4 = (i - 4) / 4 + 1 := by omega
      have e' : (i - 4) % 4 = i % 4 := by omega
      rw [e, e', List.getElem?_cons_succ]

/-- A word of a packed buffer is `BE32` of its four bytes. -/
theorem beWord_packedBytes (ws : List Word) (j : Nat) (h : j < ws.length) :
    beWord (packedBytes ws) (4 * j) = ws[j] := by
  have hb (k : Nat) (hk : k < 4) : byteAt (packedBytes ws) (4 * j + k) = ws[j].extractLsb' (24 - 8 * k) 8 := by
    have e : (4 * j + k) / 4 = j := by omega
    have e' : (4 * j + k) % 4 = k := by omega
    rw [byteAt, List.getD_eq_getElem?_getD, packedBytes_getElem?, e, e', List.getElem?_eq_getElem h]
    rfl
  have h0 := hb 0 (by omega)
  rw [beWord, hb 1 (by omega), hb 2 (by omega), hb 3 (by omega)]
  rw [Nat.add_zero] at h0
  rw [h0]
  exact be32_wordBytes _

@[simp] theorem Chain.bytes_length (h : Chain) : h.bytes.length = 20 := rfl

/-- The hash is always 20 bytes (R106). -/
@[simp] theorem sha1_length (msg : List Byte) : (sha1 msg).length = 20 := rfl

@[simp] theorem hmacSha1_length (key msg : List Byte) : (hmacSha1 key msg).length = 20 := by
  rw [hmacSha1, sha1_length]

@[simp] theorem xorEach_length (c : Byte) (s : List Byte) : (xorEach c s).length = s.length := by simp [xorEach]

@[simp] theorem mfBytes_length (s : State) : (mfBytes s).length = 8 := rfl

@[simp] theorem charsOf_length (b d : Nat) : (charsOf b d).length = d := by simp [charsOf]

theorem digestBytes_length (s : State) : (digestBytes s).length = 20 := by simp [digestBytes]

/-- The key bytes depend on KEY and KEYLEN only (R110). -/
theorem keyBytes_congr (s t : State) (h : t.key = s.key) (h' : t.keyLen = s.keyLen) : keyBytes t = keyBytes s := by
  rw [keyBytes, keyBytes, h, h']

/-- The message depends on MF_HI and MF_LO only (R111). -/
theorem mfBytes_congr (s t : State) (h : t.mfHi = s.mfHi) (h' : t.mfLo = s.mfLo) : mfBytes t = mfBytes s := by
  rw [mfBytes, mfBytes, h, h']

/-- The digest bytes depend on DIGEST only (R133). -/
theorem digestBytes_congr (s t : State) (h : t.digest = s.digest) : digestBytes t = digestBytes s := by
  rw [digestBytes, digestBytes, h]

end Sys2Proof.Machine
end

