-- ==== Sys2Proof/Laws/State.lean ====
section
/-! SUPPORT. One lemma per field per named update of Machine/Ops.lean, so that no later proof unfolds a record update. -/

namespace Sys2Proof.Machine

@[simp] theorem State.clearOutcome_key (s : State) : (s.clearOutcome).key = s.key := rfl
@[simp] theorem State.clearOutcome_keyLen (s : State) : (s.clearOutcome).keyLen = s.keyLen := rfl
@[simp] theorem State.clearOutcome_mfHi (s : State) : (s.clearOutcome).mfHi = s.mfHi := rfl
@[simp] theorem State.clearOutcome_mfLo (s : State) : (s.clearOutcome).mfLo = s.mfLo := rfl
@[simp] theorem State.clearOutcome_digest (s : State) : (s.clearOutcome).digest = s.digest := rfl
@[simp] theorem State.clearOutcome_offset (s : State) : (s.clearOutcome).offset = s.offset := rfl
@[simp] theorem State.clearOutcome_trunc (s : State) : (s.clearOutcome).trunc = s.trunc := rfl
@[simp] theorem State.clearOutcome_bin (s : State) : (s.clearOutcome).bin = s.bin := rfl
@[simp] theorem State.clearOutcome_codeLen (s : State) : (s.clearOutcome).codeLen = s.codeLen := rfl
@[simp] theorem State.clearOutcome_code (s : State) : (s.clearOutcome).code = s.code := rfl
@[simp] theorem State.clearOutcome_busy (s : State) : (s.clearOutcome).busy = s.busy := rfl
@[simp] theorem State.clearOutcome_done (s : State) : (s.clearOutcome).done = false := rfl
@[simp] theorem State.clearOutcome_err (s : State) : (s.clearOutcome).err = false := rfl
@[simp] theorem State.clearOutcome_dv (s : State) : (s.clearOutcome).dv = s.dv := rfl
@[simp] theorem State.clearOutcome_tv (s : State) : (s.clearOutcome).tv = s.tv := rfl
@[simp] theorem State.clearOutcome_cv (s : State) : (s.clearOutcome).cv = s.cv := rfl
@[simp] theorem State.clearOutcome_errCode (s : State) : (s.clearOutcome).errCode = 0 := rfl
@[simp] theorem State.clearOutcome_curOp (s : State) : (s.clearOutcome).curOp = s.curOp := rfl
@[simp] theorem State.clearOutcome_curDigits (s : State) : (s.clearOutcome).curDigits = s.curDigits := rfl
@[simp] theorem State.clearOutcome_pending (s : State) : (s.clearOutcome).pending = s.pending := rfl
@[simp] theorem State.clearOutcome_replies (s : State) : (s.clearOutcome).replies = s.replies := rfl

@[simp] theorem State.setError_key (s : State) (e : ErrCode) : (s.setError e).key = s.key := rfl
@[simp] theorem State.setError_keyLen (s : State) (e : ErrCode) : (s.setError e).keyLen = s.keyLen := rfl
@[simp] theorem State.setError_mfHi (s : State) (e : ErrCode) : (s.setError e).mfHi = s.mfHi := rfl
@[simp] theorem State.setError_mfLo (s : State) (e : ErrCode) : (s.setError e).mfLo = s.mfLo := rfl
@[simp] theorem State.setError_digest (s : State) (e : ErrCode) : (s.setError e).digest = s.digest := rfl
@[simp] theorem State.setError_offset (s : State) (e : ErrCode) : (s.setError e).offset = s.offset := rfl
@[simp] theorem State.setError_trunc (s : State) (e : ErrCode) : (s.setError e).trunc = s.trunc := rfl
@[simp] theorem State.setError_bin (s : State) (e : ErrCode) : (s.setError e).bin = s.bin := rfl
@[simp] theorem State.setError_codeLen (s : State) (e : ErrCode) : (s.setError e).codeLen = s.codeLen := rfl
@[simp] theorem State.setError_code (s : State) (e : ErrCode) : (s.setError e).code = s.code := rfl
@[simp] theorem State.setError_busy (s : State) (e : ErrCode) : (s.setError e).busy = s.busy := rfl
@[simp] theorem State.setError_done (s : State) (e : ErrCode) : (s.setError e).done = s.done := rfl
@[simp] theorem State.setError_err (s : State) (e : ErrCode) : (s.setError e).err = true := rfl
@[simp] theorem State.setError_dv (s : State) (e : ErrCode) : (s.setError e).dv = s.dv := rfl
@[simp] theorem State.setError_tv (s : State) (e : ErrCode) : (s.setError e).tv = s.tv := rfl
@[simp] theorem State.setError_cv (s : State) (e : ErrCode) : (s.setError e).cv = s.cv := rfl
@[simp] theorem State.setError_errCode (s : State) (e : ErrCode) : (s.setError e).errCode = e.code := rfl
@[simp] theorem State.setError_curOp (s : State) (e : ErrCode) : (s.setError e).curOp = s.curOp := rfl
@[simp] theorem State.setError_curDigits (s : State) (e : ErrCode) : (s.setError e).curDigits = s.curDigits := rfl
@[simp] theorem State.setError_pending (s : State) (e : ErrCode) : (s.setError e).pending = s.pending := rfl
@[simp] theorem State.setError_replies (s : State) (e : ErrCode) : (s.setError e).replies = s.replies := rfl

@[simp] theorem State.clearDigest_key (s : State) : (s.clearDigest).key = s.key := rfl
@[simp] theorem State.clearDigest_keyLen (s : State) : (s.clearDigest).keyLen = s.keyLen := rfl
@[simp] theorem State.clearDigest_mfHi (s : State) : (s.clearDigest).mfHi = s.mfHi := rfl
@[simp] theorem State.clearDigest_mfLo (s : State) : (s.clearDigest).mfLo = s.mfLo := rfl
@[simp] theorem State.clearDigest_digest (s : State) : (s.clearDigest).digest = Vector.replicate 5 0 := rfl
@[simp] theorem State.clearDigest_offset (s : State) : (s.clearDigest).offset = s.offset := rfl
@[simp] theorem State.clearDigest_trunc (s : State) : (s.clearDigest).trunc = s.trunc := rfl
@[simp] theorem State.clearDigest_bin (s : State) : (s.clearDigest).bin = s.bin := rfl
@[simp] theorem State.clearDigest_codeLen (s : State) : (s.clearDigest).codeLen = s.codeLen := rfl
@[simp] theorem State.clearDigest_code (s : State) : (s.clearDigest).code = s.code := rfl
@[simp] theorem State.clearDigest_busy (s : State) : (s.clearDigest).busy = s.busy := rfl
@[simp] theorem State.clearDigest_done (s : State) : (s.clearDigest).done = s.done := rfl
@[simp] theorem State.clearDigest_err (s : State) : (s.clearDigest).err = s.err := rfl
@[simp] theorem State.clearDigest_dv (s : State) : (s.clearDigest).dv = false := rfl
@[simp] theorem State.clearDigest_tv (s : State) : (s.clearDigest).tv = s.tv := rfl
@[simp] theorem State.clearDigest_cv (s : State) : (s.clearDigest).cv = s.cv := rfl
@[simp] theorem State.clearDigest_errCode (s : State) : (s.clearDigest).errCode = s.errCode := rfl
@[simp] theorem State.clearDigest_curOp (s : State) : (s.clearDigest).curOp = s.curOp := rfl
@[simp] theorem State.clearDigest_curDigits (s : State) : (s.clearDigest).curDigits = s.curDigits := rfl
@[simp] theorem State.clearDigest_pending (s : State) : (s.clearDigest).pending = s.pending := rfl
@[simp] theorem State.clearDigest_replies (s : State) : (s.clearDigest).replies = s.replies := rfl

@[simp] theorem State.clearTrunc_key (s : State) : (s.clearTrunc).key = s.key := rfl
@[simp] theorem State.clearTrunc_keyLen (s : State) : (s.clearTrunc).keyLen = s.keyLen := rfl
@[simp] theorem State.clearTrunc_mfHi (s : State) : (s.clearTrunc).mfHi = s.mfHi := rfl
@[simp] theorem State.clearTrunc_mfLo (s : State) : (s.clearTrunc).mfLo = s.mfLo := rfl
@[simp] theorem State.clearTrunc_digest (s : State) : (s.clearTrunc).digest = s.digest := rfl
@[simp] theorem State.clearTrunc_offset (s : State) : (s.clearTrunc).offset = 0 := rfl
@[simp] theorem State.clearTrunc_trunc (s : State) : (s.clearTrunc).trunc = 0 := rfl
@[simp] theorem State.clearTrunc_bin (s : State) : (s.clearTrunc).bin = s.bin := rfl
@[simp] theorem State.clearTrunc_codeLen (s : State) : (s.clearTrunc).codeLen = s.codeLen := rfl
@[simp] theorem State.clearTrunc_code (s : State) : (s.clearTrunc).code = s.code := rfl
@[simp] theorem State.clearTrunc_busy (s : State) : (s.clearTrunc).busy = s.busy := rfl
@[simp] theorem State.clearTrunc_done (s : State) : (s.clearTrunc).done = s.done := rfl
@[simp] theorem State.clearTrunc_err (s : State) : (s.clearTrunc).err = s.err := rfl
@[simp] theorem State.clearTrunc_dv (s : State) : (s.clearTrunc).dv = s.dv := rfl
@[simp] theorem State.clearTrunc_tv (s : State) : (s.clearTrunc).tv = false := rfl
@[simp] theorem State.clearTrunc_cv (s : State) : (s.clearTrunc).cv = s.cv := rfl
@[simp] theorem State.clearTrunc_errCode (s : State) : (s.clearTrunc).errCode = s.errCode := rfl
@[simp] theorem State.clearTrunc_curOp (s : State) : (s.clearTrunc).curOp = s.curOp := rfl
@[simp] theorem State.clearTrunc_curDigits (s : State) : (s.clearTrunc).curDigits = s.curDigits := rfl
@[simp] theorem State.clearTrunc_pending (s : State) : (s.clearTrunc).pending = s.pending := rfl
@[simp] theorem State.clearTrunc_replies (s : State) : (s.clearTrunc).replies = s.replies := rfl

@[simp] theorem State.clearCode_key (s : State) : (s.clearCode).key = s.key := rfl
@[simp] theorem State.clearCode_keyLen (s : State) : (s.clearCode).keyLen = s.keyLen := rfl
@[simp] theorem State.clearCode_mfHi (s : State) : (s.clearCode).mfHi = s.mfHi := rfl
@[simp] theorem State.clearCode_mfLo (s : State) : (s.clearCode).mfLo = s.mfLo := rfl
@[simp] theorem State.clearCode_digest (s : State) : (s.clearCode).digest = s.digest := rfl
@[simp] theorem State.clearCode_offset (s : State) : (s.clearCode).offset = s.offset := rfl
@[simp] theorem State.clearCode_trunc (s : State) : (s.clearCode).trunc = s.trunc := rfl
@[simp] theorem State.clearCode_bin (s : State) : (s.clearCode).bin = 0 := rfl
@[simp] theorem State.clearCode_codeLen (s : State) : (s.clearCode).codeLen = 0 := rfl
@[simp] theorem State.clearCode_code (s : State) : (s.clearCode).code = Vector.replicate 4 0 := rfl
@[simp] theorem State.clearCode_busy (s : State) : (s.clearCode).busy = s.busy := rfl
@[simp] theorem State.clearCode_done (s : State) : (s.clearCode).done = s.done := rfl
@[simp] theorem State.clearCode_err (s : State) : (s.clearCode).err = s.err := rfl
@[simp] theorem State.clearCode_dv (s : State) : (s.clearCode).dv = s.dv := rfl
@[simp] theorem State.clearCode_tv (s : State) : (s.clearCode).tv = s.tv := rfl
@[simp] theorem State.clearCode_cv (s : State) : (s.clearCode).cv = false := rfl
@[simp] theorem State.clearCode_errCode (s : State) : (s.clearCode).errCode = s.errCode := rfl
@[simp] theorem State.clearCode_curOp (s : State) : (s.clearCode).curOp = s.curOp := rfl
@[simp] theorem State.clearCode_curDigits (s : State) : (s.clearCode).curDigits = s.curDigits := rfl
@[simp] theorem State.clearCode_pending (s : State) : (s.clearCode).pending = s.pending := rfl
@[simp] theorem State.clearCode_replies (s : State) : (s.clearCode).replies = s.replies := rfl

@[simp] theorem State.latch_key (s : State) (i : Instr) : (s.latch i).key = s.key := rfl
@[simp] theorem State.latch_keyLen (s : State) (i : Instr) : (s.latch i).keyLen = s.keyLen := rfl
@[simp] theorem State.latch_mfHi (s : State) (i : Instr) : (s.latch i).mfHi = s.mfHi := rfl
@[simp] theorem State.latch_mfLo (s : State) (i : Instr) : (s.latch i).mfLo = s.mfLo := rfl
@[simp] theorem State.latch_digest (s : State) (i : Instr) : (s.latch i).digest = s.digest := rfl
@[simp] theorem State.latch_offset (s : State) (i : Instr) : (s.latch i).offset = s.offset := rfl
@[simp] theorem State.latch_trunc (s : State) (i : Instr) : (s.latch i).trunc = s.trunc := rfl
@[simp] theorem State.latch_bin (s : State) (i : Instr) : (s.latch i).bin = s.bin := rfl
@[simp] theorem State.latch_codeLen (s : State) (i : Instr) : (s.latch i).codeLen = s.codeLen := rfl
@[simp] theorem State.latch_code (s : State) (i : Instr) : (s.latch i).code = s.code := rfl
@[simp] theorem State.latch_busy (s : State) (i : Instr) : (s.latch i).busy = true := rfl
@[simp] theorem State.latch_done (s : State) (i : Instr) : (s.latch i).done = s.done := rfl
@[simp] theorem State.latch_err (s : State) (i : Instr) : (s.latch i).err = s.err := rfl
@[simp] theorem State.latch_dv (s : State) (i : Instr) : (s.latch i).dv = s.dv := rfl
@[simp] theorem State.latch_tv (s : State) (i : Instr) : (s.latch i).tv = s.tv := rfl
@[simp] theorem State.latch_cv (s : State) (i : Instr) : (s.latch i).cv = s.cv := rfl
@[simp] theorem State.latch_errCode (s : State) (i : Instr) : (s.latch i).errCode = s.errCode := rfl
@[simp] theorem State.latch_curOp (s : State) (i : Instr) : (s.latch i).curOp = i.opcode := rfl
@[simp] theorem State.latch_curDigits (s : State) (i : Instr) : (s.latch i).curDigits = i.digitsField := rfl
@[simp] theorem State.latch_pending (s : State) (i : Instr) : (s.latch i).pending = s.pending := rfl
@[simp] theorem State.latch_replies (s : State) (i : Instr) : (s.latch i).replies = s.replies := rfl

@[simp] theorem State.putDigest_key (s : State) (d : Vector Word 5) : (s.putDigest d).key = s.key := rfl
@[simp] theorem State.putDigest_keyLen (s : State) (d : Vector Word 5) : (s.putDigest d).keyLen = s.keyLen := rfl
@[simp] theorem State.putDigest_mfHi (s : State) (d : Vector Word 5) : (s.putDigest d).mfHi = s.mfHi := rfl
@[simp] theorem State.putDigest_mfLo (s : State) (d : Vector Word 5) : (s.putDigest d).mfLo = s.mfLo := rfl
@[simp] theorem State.putDigest_digest (s : State) (d : Vector Word 5) : (s.putDigest d).digest = d := rfl
@[simp] theorem State.putDigest_offset (s : State) (d : Vector Word 5) : (s.putDigest d).offset = s.offset := rfl
@[simp] theorem State.putDigest_trunc (s : State) (d : Vector Word 5) : (s.putDigest d).trunc = s.trunc := rfl
@[simp] theorem State.putDigest_bin (s : State) (d : Vector Word 5) : (s.putDigest d).bin = s.bin := rfl
@[simp] theorem State.putDigest_codeLen (s : State) (d : Vector Word 5) : (s.putDigest d).codeLen = s.codeLen := rfl
@[simp] theorem State.putDigest_code (s : State) (d : Vector Word 5) : (s.putDigest d).code = s.code := rfl
@[simp] theorem State.putDigest_busy (s : State) (d : Vector Word 5) : (s.putDigest d).busy = s.busy := rfl
@[simp] theorem State.putDigest_done (s : State) (d : Vector Word 5) : (s.putDigest d).done = s.done := rfl
@[simp] theorem State.putDigest_err (s : State) (d : Vector Word 5) : (s.putDigest d).err = s.err := rfl
@[simp] theorem State.putDigest_dv (s : State) (d : Vector Word 5) : (s.putDigest d).dv = true := rfl
@[simp] theorem State.putDigest_tv (s : State) (d : Vector Word 5) : (s.putDigest d).tv = s.tv := rfl
@[simp] theorem State.putDigest_cv (s : State) (d : Vector Word 5) : (s.putDigest d).cv = s.cv := rfl
@[simp] theorem State.putDigest_errCode (s : State) (d : Vector Word 5) : (s.putDigest d).errCode = s.errCode := rfl
@[simp] theorem State.putDigest_curOp (s : State) (d : Vector Word 5) : (s.putDigest d).curOp = s.curOp := rfl
@[simp] theorem State.putDigest_curDigits (s : State) (d : Vector Word 5) : (s.putDigest d).curDigits = s.curDigits := rfl
@[simp] theorem State.putDigest_pending (s : State) (d : Vector Word 5) : (s.putDigest d).pending = s.pending := rfl
@[simp] theorem State.putDigest_replies (s : State) (d : Vector Word 5) : (s.putDigest d).replies = s.replies := rfl

@[simp] theorem State.putTrunc_key (s : State) (o : BitVec 4) (t : BitVec 31) : (s.putTrunc o t).key = s.key := rfl
@[simp] theorem State.putTrunc_keyLen (s : State) (o : BitVec 4) (t : BitVec 31) : (s.putTrunc o t).keyLen = s.keyLen := rfl
@[simp] theorem State.putTrunc_mfHi (s : State) (o : BitVec 4) (t : BitVec 31) : (s.putTrunc o t).mfHi = s.mfHi := rfl
@[simp] theorem State.putTrunc_mfLo (s : State) (o : BitVec 4) (t : BitVec 31) : (s.putTrunc o t).mfLo = s.mfLo := rfl
@[simp] theorem State.putTrunc_digest (s : State) (o : BitVec 4) (t : BitVec 31) : (s.putTrunc o t).digest = s.digest := rfl
@[simp] theorem State.putTrunc_offset (s : State) (o : BitVec 4) (t : BitVec 31) : (s.putTrunc o t).offset = o := rfl
@[simp] theorem State.putTrunc_trunc (s : State) (o : BitVec 4) (t : BitVec 31) : (s.putTrunc o t).trunc = t := rfl
@[simp] theorem State.putTrunc_bin (s : State) (o : BitVec 4) (t : BitVec 31) : (s.putTrunc o t).bin = s.bin := rfl
@[simp] theorem State.putTrunc_codeLen (s : State) (o : BitVec 4) (t : BitVec 31) : (s.putTrunc o t).codeLen = s.codeLen := rfl
@[simp] theorem State.putTrunc_code (s : State) (o : BitVec 4) (t : BitVec 31) : (s.putTrunc o t).code = s.code := rfl
@[simp] theorem State.putTrunc_busy (s : State) (o : BitVec 4) (t : BitVec 31) : (s.putTrunc o t).busy = s.busy := rfl
@[simp] theorem State.putTrunc_done (s : State) (o : BitVec 4) (t : BitVec 31) : (s.putTrunc o t).done = s.done := rfl
@[simp] theorem State.putTrunc_err (s : State) (o : BitVec 4) (t : BitVec 31) : (s.putTrunc o t).err = s.err := rfl
@[simp] theorem State.putTrunc_dv (s : State) (o : BitVec 4) (t : BitVec 31) : (s.putTrunc o t).dv = s.dv := rfl
@[simp] theorem State.putTrunc_tv (s : State) (o : BitVec 4) (t : BitVec 31) : (s.putTrunc o t).tv = true := rfl
@[simp] theorem State.putTrunc_cv (s : State) (o : BitVec 4) (t : BitVec 31) : (s.putTrunc o t).cv = s.cv := rfl
@[simp] theorem State.putTrunc_errCode (s : State) (o : BitVec 4) (t : BitVec 31) : (s.putTrunc o t).errCode = s.errCode := rfl
@[simp] theorem State.putTrunc_curOp (s : State) (o : BitVec 4) (t : BitVec 31) : (s.putTrunc o t).curOp = s.curOp := rfl
@[simp] theorem State.putTrunc_curDigits (s : State) (o : BitVec 4) (t : BitVec 31) : (s.putTrunc o t).curDigits = s.curDigits := rfl
@[simp] theorem State.putTrunc_pending (s : State) (o : BitVec 4) (t : BitVec 31) : (s.putTrunc o t).pending = s.pending := rfl
@[simp] theorem State.putTrunc_replies (s : State) (o : BitVec 4) (t : BitVec 31) : (s.putTrunc o t).replies = s.replies := rfl

@[simp] theorem State.putCode_key (s : State) (b : BitVec 31) (n : BitVec 4) (c : Vector Word 4) : (s.putCode b n c).key = s.key := rfl
@[simp] theorem State.putCode_keyLen (s : State) (b : BitVec 31) (n : BitVec 4) (c : Vector Word 4) : (s.putCode b n c).keyLen = s.keyLen := rfl
@[simp] theorem State.putCode_mfHi (s : State) (b : BitVec 31) (n : BitVec 4) (c : Vector Word 4) : (s.putCode b n c).mfHi = s.mfHi := rfl
@[simp] theorem State.putCode_mfLo (s : State) (b : BitVec 31) (n : BitVec 4) (c : Vector Word 4) : (s.putCode b n c).mfLo = s.mfLo := rfl
@[simp] theorem State.putCode_digest (s : State) (b : BitVec 31) (n : BitVec 4) (c : Vector Word 4) : (s.putCode b n c).digest = s.digest := rfl
@[simp] theorem State.putCode_offset (s : State) (b : BitVec 31) (n : BitVec 4) (c : Vector Word 4) : (s.putCode b n c).offset = s.offset := rfl
@[simp] theorem State.putCode_trunc (s : State) (b : BitVec 31) (n : BitVec 4) (c : Vector Word 4) : (s.putCode b n c).trunc = s.trunc := rfl
@[simp] theorem State.putCode_bin (s : State) (b : BitVec 31) (n : BitVec 4) (c : Vector Word 4) : (s.putCode b n c).bin = b := rfl
@[simp] theorem State.putCode_codeLen (s : State) (b : BitVec 31) (n : BitVec 4) (c : Vector Word 4) : (s.putCode b n c).codeLen = n := rfl
@[simp] theorem State.putCode_code (s : State) (b : BitVec 31) (n : BitVec 4) (c : Vector Word 4) : (s.putCode b n c).code = c := rfl
@[simp] theorem State.putCode_busy (s : State) (b : BitVec 31) (n : BitVec 4) (c : Vector Word 4) : (s.putCode b n c).busy = s.busy := rfl
@[simp] theorem State.putCode_done (s : State) (b : BitVec 31) (n : BitVec 4) (c : Vector Word 4) : (s.putCode b n c).done = s.done := rfl
@[simp] theorem State.putCode_err (s : State) (b : BitVec 31) (n : BitVec 4) (c : Vector Word 4) : (s.putCode b n c).err = s.err := rfl
@[simp] theorem State.putCode_dv (s : State) (b : BitVec 31) (n : BitVec 4) (c : Vector Word 4) : (s.putCode b n c).dv = s.dv := rfl
@[simp] theorem State.putCode_tv (s : State) (b : BitVec 31) (n : BitVec 4) (c : Vector Word 4) : (s.putCode b n c).tv = s.tv := rfl
@[simp] theorem State.putCode_cv (s : State) (b : BitVec 31) (n : BitVec 4) (c : Vector Word 4) : (s.putCode b n c).cv = true := rfl
@[simp] theorem State.putCode_errCode (s : State) (b : BitVec 31) (n : BitVec 4) (c : Vector Word 4) : (s.putCode b n c).errCode = s.errCode := rfl
@[simp] theorem State.putCode_curOp (s : State) (b : BitVec 31) (n : BitVec 4) (c : Vector Word 4) : (s.putCode b n c).curOp = s.curOp := rfl
@[simp] theorem State.putCode_curDigits (s : State) (b : BitVec 31) (n : BitVec 4) (c : Vector Word 4) : (s.putCode b n c).curDigits = s.curDigits := rfl
@[simp] theorem State.putCode_pending (s : State) (b : BitVec 31) (n : BitVec 4) (c : Vector Word 4) : (s.putCode b n c).pending = s.pending := rfl
@[simp] theorem State.putCode_replies (s : State) (b : BitVec 31) (n : BitVec 4) (c : Vector Word 4) : (s.putCode b n c).replies = s.replies := rfl

@[simp] theorem State.clearOperands_key (s : State) : (s.clearOperands).key = Vector.replicate 32 0 := rfl
@[simp] theorem State.clearOperands_keyLen (s : State) : (s.clearOperands).keyLen = 0 := rfl
@[simp] theorem State.clearOperands_mfHi (s : State) : (s.clearOperands).mfHi = 0 := rfl
@[simp] theorem State.clearOperands_mfLo (s : State) : (s.clearOperands).mfLo = 0 := rfl
@[simp] theorem State.clearOperands_digest (s : State) : (s.clearOperands).digest = s.digest := rfl
@[simp] theorem State.clearOperands_offset (s : State) : (s.clearOperands).offset = s.offset := rfl
@[simp] theorem State.clearOperands_trunc (s : State) : (s.clearOperands).trunc = s.trunc := rfl
@[simp] theorem State.clearOperands_bin (s : State) : (s.clearOperands).bin = s.bin := rfl
@[simp] theorem State.clearOperands_codeLen (s : State) : (s.clearOperands).codeLen = s.codeLen := rfl
@[simp] theorem State.clearOperands_code (s : State) : (s.clearOperands).code = s.code := rfl
@[simp] theorem State.clearOperands_busy (s : State) : (s.clearOperands).busy = s.busy := rfl
@[simp] theorem State.clearOperands_done (s : State) : (s.clearOperands).done = s.done := rfl
@[simp] theorem State.clearOperands_err (s : State) : (s.clearOperands).err = s.err := rfl
@[simp] theorem State.clearOperands_dv (s : State) : (s.clearOperands).dv = s.dv := rfl
@[simp] theorem State.clearOperands_tv (s : State) : (s.clearOperands).tv = s.tv := rfl
@[simp] theorem State.clearOperands_cv (s : State) : (s.clearOperands).cv = s.cv := rfl
@[simp] theorem State.clearOperands_errCode (s : State) : (s.clearOperands).errCode = s.errCode := rfl
@[simp] theorem State.clearOperands_curOp (s : State) : (s.clearOperands).curOp = s.curOp := rfl
@[simp] theorem State.clearOperands_curDigits (s : State) : (s.clearOperands).curDigits = s.curDigits := rfl
@[simp] theorem State.clearOperands_pending (s : State) : (s.clearOperands).pending = s.pending := rfl
@[simp] theorem State.clearOperands_replies (s : State) : (s.clearOperands).replies = s.replies := rfl

@[simp] theorem State.finish_key (s : State) : (s.finish).key = s.key := rfl
@[simp] theorem State.finish_keyLen (s : State) : (s.finish).keyLen = s.keyLen := rfl
@[simp] theorem State.finish_mfHi (s : State) : (s.finish).mfHi = s.mfHi := rfl
@[simp] theorem State.finish_mfLo (s : State) : (s.finish).mfLo = s.mfLo := rfl
@[simp] theorem State.finish_digest (s : State) : (s.finish).digest = s.digest := rfl
@[simp] theorem State.finish_offset (s : State) : (s.finish).offset = s.offset := rfl
@[simp] theorem State.finish_trunc (s : State) : (s.finish).trunc = s.trunc := rfl
@[simp] theorem State.finish_bin (s : State) : (s.finish).bin = s.bin := rfl
@[simp] theorem State.finish_codeLen (s : State) : (s.finish).codeLen = s.codeLen := rfl
@[simp] theorem State.finish_code (s : State) : (s.finish).code = s.code := rfl
@[simp] theorem State.finish_busy (s : State) : (s.finish).busy = false := rfl
@[simp] theorem State.finish_done (s : State) : (s.finish).done = true := rfl
@[simp] theorem State.finish_err (s : State) : (s.finish).err = s.err := rfl
@[simp] theorem State.finish_dv (s : State) : (s.finish).dv = s.dv := rfl
@[simp] theorem State.finish_tv (s : State) : (s.finish).tv = s.tv := rfl
@[simp] theorem State.finish_cv (s : State) : (s.finish).cv = s.cv := rfl
@[simp] theorem State.finish_errCode (s : State) : (s.finish).errCode = s.errCode := rfl
@[simp] theorem State.finish_curOp (s : State) : (s.finish).curOp = 0 := rfl
@[simp] theorem State.finish_curDigits (s : State) : (s.finish).curDigits = 0 := rfl
@[simp] theorem State.finish_pending (s : State) : (s.finish).pending = s.pending := rfl
@[simp] theorem State.finish_replies (s : State) : (s.finish).replies = s.replies := rfl

@[simp] theorem State.setKey_key (s : State) (j : Nat) (v : Word) : (s.setKey j v).key = s.key.setIfInBounds j v := rfl
@[simp] theorem State.setKey_keyLen (s : State) (j : Nat) (v : Word) : (s.setKey j v).keyLen = s.keyLen := rfl
@[simp] theorem State.setKey_mfHi (s : State) (j : Nat) (v : Word) : (s.setKey j v).mfHi = s.mfHi := rfl
@[simp] theorem State.setKey_mfLo (s : State) (j : Nat) (v : Word) : (s.setKey j v).mfLo = s.mfLo := rfl
@[simp] theorem State.setKey_digest (s : State) (j : Nat) (v : Word) : (s.setKey j v).digest = s.digest := rfl
@[simp] theorem State.setKey_offset (s : State) (j : Nat) (v : Word) : (s.setKey j v).offset = s.offset := rfl
@[simp] theorem State.setKey_trunc (s : State) (j : Nat) (v : Word) : (s.setKey j v).trunc = s.trunc := rfl
@[simp] theorem State.setKey_bin (s : State) (j : Nat) (v : Word) : (s.setKey j v).bin = s.bin := rfl
@[simp] theorem State.setKey_codeLen (s : State) (j : Nat) (v : Word) : (s.setKey j v).codeLen = s.codeLen := rfl
@[simp] theorem State.setKey_code (s : State) (j : Nat) (v : Word) : (s.setKey j v).code = s.code := rfl
@[simp] theorem State.setKey_busy (s : State) (j : Nat) (v : Word) : (s.setKey j v).busy = s.busy := rfl
@[simp] theorem State.setKey_done (s : State) (j : Nat) (v : Word) : (s.setKey j v).done = s.done := rfl
@[simp] theorem State.setKey_err (s : State) (j : Nat) (v : Word) : (s.setKey j v).err = s.err := rfl
@[simp] theorem State.setKey_dv (s : State) (j : Nat) (v : Word) : (s.setKey j v).dv = s.dv := rfl
@[simp] theorem State.setKey_tv (s : State) (j : Nat) (v : Word) : (s.setKey j v).tv = s.tv := rfl
@[simp] theorem State.setKey_cv (s : State) (j : Nat) (v : Word) : (s.setKey j v).cv = s.cv := rfl
@[simp] theorem State.setKey_errCode (s : State) (j : Nat) (v : Word) : (s.setKey j v).errCode = s.errCode := rfl
@[simp] theorem State.setKey_curOp (s : State) (j : Nat) (v : Word) : (s.setKey j v).curOp = s.curOp := rfl
@[simp] theorem State.setKey_curDigits (s : State) (j : Nat) (v : Word) : (s.setKey j v).curDigits = s.curDigits := rfl
@[simp] theorem State.setKey_pending (s : State) (j : Nat) (v : Word) : (s.setKey j v).pending = s.pending := rfl
@[simp] theorem State.setKey_replies (s : State) (j : Nat) (v : Word) : (s.setKey j v).replies = s.replies := rfl

@[simp] theorem State.setKeyLen_key (s : State) (v : Word) : (s.setKeyLen v).key = s.key := rfl
@[simp] theorem State.setKeyLen_keyLen (s : State) (v : Word) : (s.setKeyLen v).keyLen = v.extractLsb' 0 8 := rfl
@[simp] theorem State.setKeyLen_mfHi (s : State) (v : Word) : (s.setKeyLen v).mfHi = s.mfHi := rfl
@[simp] theorem State.setKeyLen_mfLo (s : State) (v : Word) : (s.setKeyLen v).mfLo = s.mfLo := rfl
@[simp] theorem State.setKeyLen_digest (s : State) (v : Word) : (s.setKeyLen v).digest = s.digest := rfl
@[simp] theorem State.setKeyLen_offset (s : State) (v : Word) : (s.setKeyLen v).offset = s.offset := rfl
@[simp] theorem State.setKeyLen_trunc (s : State) (v : Word) : (s.setKeyLen v).trunc = s.trunc := rfl
@[simp] theorem State.setKeyLen_bin (s : State) (v : Word) : (s.setKeyLen v).bin = s.bin := rfl
@[simp] theorem State.setKeyLen_codeLen (s : State) (v : Word) : (s.setKeyLen v).codeLen = s.codeLen := rfl
@[simp] theorem State.setKeyLen_code (s : State) (v : Word) : (s.setKeyLen v).code = s.code := rfl
@[simp] theorem State.setKeyLen_busy (s : State) (v : Word) : (s.setKeyLen v).busy = s.busy := rfl
@[simp] theorem State.setKeyLen_done (s : State) (v : Word) : (s.setKeyLen v).done = s.done := rfl
@[simp] theorem State.setKeyLen_err (s : State) (v : Word) : (s.setKeyLen v).err = s.err := rfl
@[simp] theorem State.setKeyLen_dv (s : State) (v : Word) : (s.setKeyLen v).dv = s.dv := rfl
@[simp] theorem State.setKeyLen_tv (s : State) (v : Word) : (s.setKeyLen v).tv = s.tv := rfl
@[simp] theorem State.setKeyLen_cv (s : State) (v : Word) : (s.setKeyLen v).cv = s.cv := rfl
@[simp] theorem State.setKeyLen_errCode (s : State) (v : Word) : (s.setKeyLen v).errCode = s.errCode := rfl
@[simp] theorem State.setKeyLen_curOp (s : State) (v : Word) : (s.setKeyLen v).curOp = s.curOp := rfl
@[simp] theorem State.setKeyLen_curDigits (s : State) (v : Word) : (s.setKeyLen v).curDigits = s.curDigits := rfl
@[simp] theorem State.setKeyLen_pending (s : State) (v : Word) : (s.setKeyLen v).pending = s.pending := rfl
@[simp] theorem State.setKeyLen_replies (s : State) (v : Word) : (s.setKeyLen v).replies = s.replies := rfl

@[simp] theorem State.setMfHi_key (s : State) (v : Word) : (s.setMfHi v).key = s.key := rfl
@[simp] theorem State.setMfHi_keyLen (s : State) (v : Word) : (s.setMfHi v).keyLen = s.keyLen := rfl
@[simp] theorem State.setMfHi_mfHi (s : State) (v : Word) : (s.setMfHi v).mfHi = v := rfl
@[simp] theorem State.setMfHi_mfLo (s : State) (v : Word) : (s.setMfHi v).mfLo = s.mfLo := rfl
@[simp] theorem State.setMfHi_digest (s : State) (v : Word) : (s.setMfHi v).digest = s.digest := rfl
@[simp] theorem State.setMfHi_offset (s : State) (v : Word) : (s.setMfHi v).offset = s.offset := rfl
@[simp] theorem State.setMfHi_trunc (s : State) (v : Word) : (s.setMfHi v).trunc = s.trunc := rfl
@[simp] theorem State.setMfHi_bin (s : State) (v : Word) : (s.setMfHi v).bin = s.bin := rfl
@[simp] theorem State.setMfHi_codeLen (s : State) (v : Word) : (s.setMfHi v).codeLen = s.codeLen := rfl
@[simp] theorem State.setMfHi_code (s : State) (v : Word) : (s.setMfHi v).code = s.code := rfl
@[simp] theorem State.setMfHi_busy (s : State) (v : Word) : (s.setMfHi v).busy = s.busy := rfl
@[simp] theorem State.setMfHi_done (s : State) (v : Word) : (s.setMfHi v).done = s.done := rfl
@[simp] theorem State.setMfHi_err (s : State) (v : Word) : (s.setMfHi v).err = s.err := rfl
@[simp] theorem State.setMfHi_dv (s : State) (v : Word) : (s.setMfHi v).dv = s.dv := rfl
@[simp] theorem State.setMfHi_tv (s : State) (v : Word) : (s.setMfHi v).tv = s.tv := rfl
@[simp] theorem State.setMfHi_cv (s : State) (v : Word) : (s.setMfHi v).cv = s.cv := rfl
@[simp] theorem State.setMfHi_errCode (s : State) (v : Word) : (s.setMfHi v).errCode = s.errCode := rfl
@[simp] theorem State.setMfHi_curOp (s : State) (v : Word) : (s.setMfHi v).curOp = s.curOp := rfl
@[simp] theorem State.setMfHi_curDigits (s : State) (v : Word) : (s.setMfHi v).curDigits = s.curDigits := rfl
@[simp] theorem State.setMfHi_pending (s : State) (v : Word) : (s.setMfHi v).pending = s.pending := rfl
@[simp] theorem State.setMfHi_replies (s : State) (v : Word) : (s.setMfHi v).replies = s.replies := rfl

@[simp] theorem State.setMfLo_key (s : State) (v : Word) : (s.setMfLo v).key = s.key := rfl
@[simp] theorem State.setMfLo_keyLen (s : State) (v : Word) : (s.setMfLo v).keyLen = s.keyLen := rfl
@[simp] theorem State.setMfLo_mfHi (s : State) (v : Word) : (s.setMfLo v).mfHi = s.mfHi := rfl
@[simp] theorem State.setMfLo_mfLo (s : State) (v : Word) : (s.setMfLo v).mfLo = v := rfl
@[simp] theorem State.setMfLo_digest (s : State) (v : Word) : (s.setMfLo v).digest = s.digest := rfl
@[simp] theorem State.setMfLo_offset (s : State) (v : Word) : (s.setMfLo v).offset = s.offset := rfl
@[simp] theorem State.setMfLo_trunc (s : State) (v : Word) : (s.setMfLo v).trunc = s.trunc := rfl
@[simp] theorem State.setMfLo_bin (s : State) (v : Word) : (s.setMfLo v).bin = s.bin := rfl
@[simp] theorem State.setMfLo_codeLen (s : State) (v : Word) : (s.setMfLo v).codeLen = s.codeLen := rfl
@[simp] theorem State.setMfLo_code (s : State) (v : Word) : (s.setMfLo v).code = s.code := rfl
@[simp] theorem State.setMfLo_busy (s : State) (v : Word) : (s.setMfLo v).busy = s.busy := rfl
@[simp] theorem State.setMfLo_done (s : State) (v : Word) : (s.setMfLo v).done = s.done := rfl
@[simp] theorem State.setMfLo_err (s : State) (v : Word) : (s.setMfLo v).err = s.err := rfl
@[simp] theorem State.setMfLo_dv (s : State) (v : Word) : (s.setMfLo v).dv = s.dv := rfl
@[simp] theorem State.setMfLo_tv (s : State) (v : Word) : (s.setMfLo v).tv = s.tv := rfl
@[simp] theorem State.setMfLo_cv (s : State) (v : Word) : (s.setMfLo v).cv = s.cv := rfl
@[simp] theorem State.setMfLo_errCode (s : State) (v : Word) : (s.setMfLo v).errCode = s.errCode := rfl
@[simp] theorem State.setMfLo_curOp (s : State) (v : Word) : (s.setMfLo v).curOp = s.curOp := rfl
@[simp] theorem State.setMfLo_curDigits (s : State) (v : Word) : (s.setMfLo v).curDigits = s.curDigits := rfl
@[simp] theorem State.setMfLo_pending (s : State) (v : Word) : (s.setMfLo v).pending = s.pending := rfl
@[simp] theorem State.setMfLo_replies (s : State) (v : Word) : (s.setMfLo v).replies = s.replies := rfl

@[simp] theorem State.reply_key (s : State) (v : Word) : (s.reply v).key = s.key := rfl
@[simp] theorem State.reply_keyLen (s : State) (v : Word) : (s.reply v).keyLen = s.keyLen := rfl
@[simp] theorem State.reply_mfHi (s : State) (v : Word) : (s.reply v).mfHi = s.mfHi := rfl
@[simp] theorem State.reply_mfLo (s : State) (v : Word) : (s.reply v).mfLo = s.mfLo := rfl
@[simp] theorem State.reply_digest (s : State) (v : Word) : (s.reply v).digest = s.digest := rfl
@[simp] theorem State.reply_offset (s : State) (v : Word) : (s.reply v).offset = s.offset := rfl
@[simp] theorem State.reply_trunc (s : State) (v : Word) : (s.reply v).trunc = s.trunc := rfl
@[simp] theorem State.reply_bin (s : State) (v : Word) : (s.reply v).bin = s.bin := rfl
@[simp] theorem State.reply_codeLen (s : State) (v : Word) : (s.reply v).codeLen = s.codeLen := rfl
@[simp] theorem State.reply_code (s : State) (v : Word) : (s.reply v).code = s.code := rfl
@[simp] theorem State.reply_busy (s : State) (v : Word) : (s.reply v).busy = s.busy := rfl
@[simp] theorem State.reply_done (s : State) (v : Word) : (s.reply v).done = s.done := rfl
@[simp] theorem State.reply_err (s : State) (v : Word) : (s.reply v).err = s.err := rfl
@[simp] theorem State.reply_dv (s : State) (v : Word) : (s.reply v).dv = s.dv := rfl
@[simp] theorem State.reply_tv (s : State) (v : Word) : (s.reply v).tv = s.tv := rfl
@[simp] theorem State.reply_cv (s : State) (v : Word) : (s.reply v).cv = s.cv := rfl
@[simp] theorem State.reply_errCode (s : State) (v : Word) : (s.reply v).errCode = s.errCode := rfl
@[simp] theorem State.reply_curOp (s : State) (v : Word) : (s.reply v).curOp = s.curOp := rfl
@[simp] theorem State.reply_curDigits (s : State) (v : Word) : (s.reply v).curDigits = s.curDigits := rfl
@[simp] theorem State.reply_pending (s : State) (v : Word) : (s.reply v).pending = s.pending := rfl
@[simp] theorem State.reply_replies (s : State) (v : Word) : (s.reply v).replies = s.replies ++ [v] := rfl

@[simp] theorem State.restart_key (s : State) : (s.restart).key = Vector.replicate 32 0 := rfl
@[simp] theorem State.restart_keyLen (s : State) : (s.restart).keyLen = 0 := rfl
@[simp] theorem State.restart_mfHi (s : State) : (s.restart).mfHi = 0 := rfl
@[simp] theorem State.restart_mfLo (s : State) : (s.restart).mfLo = 0 := rfl
@[simp] theorem State.restart_digest (s : State) : (s.restart).digest = Vector.replicate 5 0 := rfl
@[simp] theorem State.restart_offset (s : State) : (s.restart).offset = 0 := rfl
@[simp] theorem State.restart_trunc (s : State) : (s.restart).trunc = 0 := rfl
@[simp] theorem State.restart_bin (s : State) : (s.restart).bin = 0 := rfl
@[simp] theorem State.restart_codeLen (s : State) : (s.restart).codeLen = 0 := rfl
@[simp] theorem State.restart_code (s : State) : (s.restart).code = Vector.replicate 4 0 := rfl
@[simp] theorem State.restart_busy (s : State) : (s.restart).busy = false := rfl
@[simp] theorem State.restart_done (s : State) : (s.restart).done = false := rfl
@[simp] theorem State.restart_err (s : State) : (s.restart).err = false := rfl
@[simp] theorem State.restart_dv (s : State) : (s.restart).dv = false := rfl
@[simp] theorem State.restart_tv (s : State) : (s.restart).tv = false := rfl
@[simp] theorem State.restart_cv (s : State) : (s.restart).cv = false := rfl
@[simp] theorem State.restart_errCode (s : State) : (s.restart).errCode = 0 := rfl
@[simp] theorem State.restart_curOp (s : State) : (s.restart).curOp = 0 := rfl
@[simp] theorem State.restart_curDigits (s : State) : (s.restart).curDigits = 0 := rfl
@[simp] theorem State.restart_pending (s : State) : (s.restart).pending = s.pending := rfl
@[simp] theorem State.restart_replies (s : State) : (s.restart).replies = s.replies := rfl

@[simp] theorem State.withPending_key (s : State) (rest : List Action) : (s.withPending rest).key = s.key := rfl
@[simp] theorem State.withPending_keyLen (s : State) (rest : List Action) : (s.withPending rest).keyLen = s.keyLen := rfl
@[simp] theorem State.withPending_mfHi (s : State) (rest : List Action) : (s.withPending rest).mfHi = s.mfHi := rfl
@[simp] theorem State.withPending_mfLo (s : State) (rest : List Action) : (s.withPending rest).mfLo = s.mfLo := rfl
@[simp] theorem State.withPending_digest (s : State) (rest : List Action) : (s.withPending rest).digest = s.digest := rfl
@[simp] theorem State.withPending_offset (s : State) (rest : List Action) : (s.withPending rest).offset = s.offset := rfl
@[simp] theorem State.withPending_trunc (s : State) (rest : List Action) : (s.withPending rest).trunc = s.trunc := rfl
@[simp] theorem State.withPending_bin (s : State) (rest : List Action) : (s.withPending rest).bin = s.bin := rfl
@[simp] theorem State.withPending_codeLen (s : State) (rest : List Action) : (s.withPending rest).codeLen = s.codeLen := rfl
@[simp] theorem State.withPending_code (s : State) (rest : List Action) : (s.withPending rest).code = s.code := rfl
@[simp] theorem State.withPending_busy (s : State) (rest : List Action) : (s.withPending rest).busy = s.busy := rfl
@[simp] theorem State.withPending_done (s : State) (rest : List Action) : (s.withPending rest).done = s.done := rfl
@[simp] theorem State.withPending_err (s : State) (rest : List Action) : (s.withPending rest).err = s.err := rfl
@[simp] theorem State.withPending_dv (s : State) (rest : List Action) : (s.withPending rest).dv = s.dv := rfl
@[simp] theorem State.withPending_tv (s : State) (rest : List Action) : (s.withPending rest).tv = s.tv := rfl
@[simp] theorem State.withPending_cv (s : State) (rest : List Action) : (s.withPending rest).cv = s.cv := rfl
@[simp] theorem State.withPending_errCode (s : State) (rest : List Action) : (s.withPending rest).errCode = s.errCode := rfl
@[simp] theorem State.withPending_curOp (s : State) (rest : List Action) : (s.withPending rest).curOp = s.curOp := rfl
@[simp] theorem State.withPending_curDigits (s : State) (rest : List Action) : (s.withPending rest).curDigits = s.curDigits := rfl
@[simp] theorem State.withPending_pending (s : State) (rest : List Action) : (s.withPending rest).pending = rest := rfl
@[simp] theorem State.withPending_replies (s : State) (rest : List Action) : (s.withPending rest).replies = s.replies := rfl

end Sys2Proof.Machine
end

