-- ==== Sys2Proof/Laws/Ops.lean ====
section
/-! SUPPORT. One lemma per shared operation that says everything it can do; proofs cite these instead of unfolding the
operation. -/

namespace Sys2Proof.Machine

/-- A rejection as one record update: exactly what R188 writes. -/
theorem reject_eq (e : ErrCode) (s : State) :
    reject e s = { s with done := false, err := true, errCode := e.code } := rfl

/-- The results a command clears at acceptance (R90), as one record update. -/
theorem clearResults_all (i : Instr) (s : State) (h : i = .hmac ∨ i = .zero ∨ ∃ d, i = .gen d) :
    clearResults i s = { s with digest := Vector.replicate 5 0, dv := false, offset := 0, trunc := 0, tv := false,
                                bin := 0, codeLen := 0, code := Vector.replicate 4 0, cv := false } := by
  obtain rfl | rfl | ⟨d, rfl⟩ := h <;> rfl

theorem clearResults_dt (s : State) :
    clearResults .dt s = { s with offset := 0, trunc := 0, tv := false, bin := 0, codeLen := 0,
                                  code := Vector.replicate 4 0, cv := false } := rfl

theorem clearResults_fmt (d : BitVec 4) (s : State) :
    clearResults (.fmt d) s = { s with bin := 0, codeLen := 0, code := Vector.replicate 4 0, cv := false } := rfl

/-- Acceptance clears after it has cleared the outcome, and the latch comes last (R88). -/
theorem accept_eq (i : Instr) (s : State) :
    accept i s = { clearResults i s with done := false, err := false, errCode := 0, curOp := i.opcode,
                                         curDigits := i.digitsField, busy := true } := by
  cases i <;> rfl

theorem issue_busy (i : Instr) (s : State) (h : s.busy = true) : issue i s = s := by
  simp [issue, h]

theorem issue_rejected (i : Instr) (s : State) (e : ErrCode) (h : s.busy = false) (hc : check i s = some e) :
    issue i s = reject e s := by
  simp [issue, h, hc]

theorem issue_accepted (i : Instr) (s : State) (h : s.busy = false) (hc : check i s = none) :
    issue i s = accept i s := by
  simp [issue, h, hc]

/-- Everything the command procedure of a legal word can do (R88). -/
theorem issue_cases (i : Instr) (s : State) :
    (s.busy = true ∧ issue i s = s) ∨ (∃ e, s.busy = false ∧ check i s = some e ∧ issue i s = reject e s)
      ∨ (s.busy = false ∧ check i s = none ∧ issue i s = accept i s) := by
  cases hb : s.busy with
  | true => exact .inl ⟨rfl, issue_busy i s hb⟩
  | false =>
    cases hc : check i s with
    | some e => exact .inr (.inl ⟨e, rfl, rfl, issue_rejected i s e hb hc⟩)
    | none => exact .inr (.inr ⟨rfl, rfl, issue_accepted i s hb hc⟩)

/-- KEYLEN in 1..128 passes the key checks (R87). -/
theorem checkKey_none (s : State) (h : s.keyLen ≠ 0) (h' : s.keyLen.toNat ≤ 128) : checkKey s = none := by
  rw [checkKey, if_neg h, if_neg (Nat.not_lt.2 h')]

theorem checkKey_empty (s : State) (h : s.keyLen = 0) : checkKey s = some .keyEmpty := by
  simp [checkKey, h]

theorem checkKey_long (s : State) (h : 128 < s.keyLen.toNat) : checkKey s = some .keyLen := by
  have h0 : s.keyLen ≠ 0 := fun h0 => by simp [h0] at h
  rw [checkKey, if_neg h0, if_pos h]

/-- The key checks pass exactly for a KEYLEN in 1..128. -/
theorem checkKey_eq_none (s : State) : checkKey s = none ↔ 1 ≤ s.keyLen.toNat ∧ s.keyLen.toNat ≤ 128 := by
  by_cases h : s.keyLen = 0
  · simp [checkKey_empty s h, h]
  · have h1 : 1 ≤ s.keyLen.toNat := Nat.pos_of_ne_zero fun h' => h (BitVec.eq_of_toNat_eq h')
    by_cases h' : s.keyLen.toNat ≤ 128
    · simp [checkKey_none s h h', h1, h']
    · simp [checkKey_long s (by omega), h']

theorem checkValid_eq_none (flag : Bool) : checkValid flag = none ↔ flag = true := by
  cases flag <;> simp [checkValid]

theorem checkDigits_eq_none (d : BitVec 4) : checkDigits d = none ↔ d ≠ 0 := by
  simp [checkDigits]

/-- What each command needs to be accepted (R87). -/
theorem check_eq_none (i : Instr) (s : State) :
    check i s = none ↔
      match i with
      | .hmac => 1 ≤ s.keyLen.toNat ∧ s.keyLen.toNat ≤ 128
      | .dt => s.dv = true
      | .fmt d => s.tv = true ∧ d ≠ 0
      | .gen d => (1 ≤ s.keyLen.toNat ∧ s.keyLen.toNat ≤ 128) ∧ d ≠ 0
      | .zero => True := by
  cases i <;> simp only [check, Option.or_eq_none_iff, checkKey_eq_none, checkValid_eq_none, checkDigits_eq_none]

/-- Every command's meaning at its CMD write is the command procedure. -/
theorem exec_eq_issue (i : Instr) (s : State) : exec i s = .next (issue i s) := by
  cases i <;> rfl

theorem issueIllegal_busy (s : State) (h : s.busy = true) : issueIllegal s = s := by
  simp [issueIllegal, h]

theorem issueIllegal_idle (s : State) (h : s.busy = false) : issueIllegal s = reject .illegalCmd s := by
  simp [issueIllegal, h]

/-- What a write to CMD leaves, whatever the word (R88). -/
def afterCmdWrite (w : Word) (s : State) : State :=
  match Sys2Proof.decode w with
  | .legal i => issue i s
  | .illegal _ => issueIllegal s

theorem cmdWrite_eq (w : Word) (s : State) : cmdWrite w s = .next (afterCmdWrite w s) := by
  unfold cmdWrite afterCmdWrite
  cases Sys2Proof.decode w with
  | legal i => exact exec_eq_issue i s
  | illegal _ => rfl

theorem afterCmdWrite_busy (w : Word) (s : State) (h : s.busy = true) : afterCmdWrite w s = s := by
  unfold afterCmdWrite
  cases Sys2Proof.decode w with
  | legal i => exact issue_busy i s h
  | illegal _ => exact issueIllegal_busy s h

/-- The completion step never touches the order of actions or what the host has read. -/
theorem compute_pending (s : State) : (compute s).pending = s.pending := by
  unfold compute; split <;> rfl

theorem compute_replies (s : State) : (compute s).replies = s.replies := by
  unfold compute; split <;> rfl

theorem complete_idle (s : State) (h : s.busy = false) : complete s = s := by
  simp [complete, h]

theorem complete_busy (s : State) (h : s.busy = true) : complete s = (compute s).finish := by
  simp [complete, h]

theorem complete_not_busy (s : State) : (complete s).busy = false := by
  cases h : s.busy with
  | true => rw [complete_busy s h]; rfl
  | false => rw [complete_idle s h, h]

/-- Everything a port write can do: a command, nothing while busy, or a store (R54, R55). -/
theorem regWrite_cases (a : BitVec 6) (v : Word) (s : State) :
    (a = cmdIndex ∧ regWrite a v s = .next (afterCmdWrite v s)) ∨ (s.busy = true ∧ regWrite a v s = .next s)
      ∨ (a ≠ cmdIndex ∧ s.busy = false ∧ regWrite a v s = .next (storeOperand a v s)) := by
  by_cases ha : a = cmdIndex
  · exact .inl ⟨ha, by simp [regWrite, ha, cmdWrite_eq]⟩
  · cases hb : s.busy with
    | true => exact .inr (.inl ⟨rfl, by simp [regWrite, ha, hb]⟩)
    | false => exact .inr (.inr ⟨ha, rfl, by simp [regWrite, ha, hb]⟩)

/-- Everything a store outside CMD can do (R54, R56). -/
theorem storeOperand_cases (a : BitVec 6) (v : Word) (s : State) :
    (a = 0x03 ∧ storeOperand a v s = s.setKeyLen v) ∨ (a = 0x04 ∧ storeOperand a v s = s.setMfHi v)
      ∨ (a = 0x05 ∧ storeOperand a v s = s.setMfLo v)
      ∨ (0x20 ≤ a.toNat ∧ storeOperand a v s = s.setKey (a.toNat - 0x20) v) ∨ storeOperand a v s = s := by
  unfold storeOperand
  split
  · exact .inl ⟨‹_›, rfl⟩
  · split
    · exact .inr (.inl ⟨‹_›, rfl⟩)
    · split
      · exact .inr (.inr (.inl ⟨‹_›, rfl⟩))
      · split
        · exact .inr (.inr (.inr (.inl ⟨‹_›, rfl⟩)))
        · exact .inr (.inr (.inr (.inr rfl)))

/-- Everything one step can do (R20): the ENGINE's turn, a read, a write to CMD, a write lost while busy, a store while
idle, or the reset action. -/
theorem step_cases (s : State) :
    (s.pending = [] ∧ step s = .next (complete s))
      ∨ ∃ x rest, s.pending = x :: rest ∧
        ((x = .engine ∧ step s = .next (complete (s.withPending rest)))
          ∨ (∃ a, x = .host (.regRead a) ∧
              step s = .next ((s.withPending rest).reply (regRead a (s.withPending rest))))
          ∨ (∃ v, x = .host (.regWrite cmdIndex v) ∧ step s = .next (afterCmdWrite v (s.withPending rest)))
          ∨ (∃ a v, x = .host (.regWrite a v) ∧ s.busy = true ∧ step s = .next (s.withPending rest))
          ∨ (∃ a v, x = .host (.regWrite a v) ∧ a ≠ cmdIndex ∧ s.busy = false ∧
              step s = .next (storeOperand a v (s.withPending rest)))
          ∨ (x = .reset ∧ step s = .next (s.withPending rest).restart)) := by
  cases hp : s.pending with
  | nil => exact .inl ⟨rfl, by simp [step, takeTurn, hp]⟩
  | cons x rest =>
    refine .inr ⟨x, rest, rfl, ?_⟩
    have hs : step s = perform x (s.withPending rest) := by simp [step, takeTurn, hp]
    rw [hs]
    cases x with
    | engine => exact .inl ⟨rfl, rfl⟩
    | reset => exact .inr (.inr (.inr (.inr (.inr ⟨rfl, rfl⟩))))
    | host t =>
      cases t with
      | regRead a => exact .inr (.inl ⟨a, rfl, rfl⟩)
      | regWrite a v =>
        obtain ⟨rfl, h⟩ | ⟨hb, h⟩ | ⟨ha, hb, h⟩ := regWrite_cases a v (s.withPending rest)
        · exact .inr (.inr (.inl ⟨v, rfl, h⟩))
        · exact .inr (.inr (.inr (.inl ⟨a, v, rfl, hb, h⟩)))
        · exact .inr (.inr (.inr (.inr (.inl ⟨a, v, rfl, ha, hb, h⟩))))

end Sys2Proof.Machine
end

