-- ==== Sys2Proof/Laws/PerInstr.lean ====
section
/-! SUPPORT. Facts about every instruction as syntax, one lemma per constructor. -/

namespace Sys2Proof.Laws.FormatC

/-- The word of an instruction is of format C (R81): zero reserved fields, its DIGITS in 11:8, its OP in 3:0. -/
def Statement (i : Instr) : Prop :=
  rsv1Field (encode i) = 0 ∧ rsv0Field (encode i) = 0 ∧ digitsField (encode i) = i.digitsField ∧ opField (encode i) = i.opcode

/-- Every word of format C with zero reserved fields has the fields it was made of. -/
theorem formatC_fields (d op : BitVec 4) :
    rsv1Field (formatC d op) = 0 ∧ rsv0Field (formatC d op) = 0 ∧ digitsField (formatC d op) = d
      ∧ opField (formatC d op) = op := by
  revert d op; decide +kernel

theorem hmac : Statement .hmac := formatC_fields _ _
theorem dt : Statement .dt := formatC_fields _ _
theorem fmt (d : BitVec 4) : Statement (.fmt d) := formatC_fields _ _
theorem gen (d : BitVec 4) : Statement (.gen d) := formatC_fields _ _
theorem zero : Statement .zero := formatC_fields _ _

end Sys2Proof.Laws.FormatC
end

