-- ==== Sys2Proof/Laws/Run.lean ====
section
/-! SUPPORT. Runs of several steps: one lemma to take a step, and the induction over a run, once. -/

namespace Sys2Proof.Machine

theorem run_zero (s : State) : Host.Core.run Sys2Proof.core 0 s = .next s := rfl

theorem core_run_succ (M : Host.Core) (n : Nat) (s t : M.State) (h : M.step s = .next t) :
    M.run (n + 1) s = M.run n t := by
  simp only [Host.Core.run, h]

/-- A run whose first step answers t goes on from t. -/
theorem run_succ (n : Nat) (s t : State) (h : step s = .next t) :
    Host.Core.run Sys2Proof.core (n + 1) s = Host.Core.run Sys2Proof.core n t :=
  core_run_succ Sys2Proof.core n s t h

/-- What every step keeps, every run keeps. -/
theorem run_keeps (P : State → Prop) (hstep : ∀ s t, P s → step s = .next t → P t) (n : Nat) (s t : State) (hs : P s)
    (h : Host.Core.run Sys2Proof.core n s = .next t) : P t := by
  induction n generalizing s with
  | zero =>
    rw [run_zero] at h
    cases h
    exact hs
  | succ n ih =>
    obtain ⟨_, hu⟩ | ⟨_, _, _, ⟨_, hu⟩ | ⟨_, _, hu⟩ | ⟨_, _, hu⟩ | ⟨_, _, _, _, hu⟩ | ⟨_, _, _, _, _, hu⟩ | ⟨_, hu⟩⟩ :=
      step_cases s <;> exact ih _ (hstep s _ hs hu) (by rw [← run_succ n s _ hu]; exact h)

/-- The invariant speaks of the engine's part of the state only. -/
theorem inv_of_engineOnly (s t : State) (h : t.engineOnly = s.engineOnly) (hs : s.Inv) : t.Inv := by
  have key : ∀ s : State, s.Inv ↔ s.engineOnly.Inv := by
    intro s
    constructor <;>
      (rintro ⟨⟨a, b, c, d, e, f, g⟩, ⟨h, i, j, k⟩⟩; exact ⟨⟨a, b, c, d, e, f, g⟩, ⟨h, i, j, k⟩⟩)
  rw [key, h, ← key]
  exact hs

end Sys2Proof.Machine
end

