-- ==== Sys2Proof/Tests/Slice0.lean ====
section
/-! SUPPORT. The model's own tests. Every expected value is the spec's: 95_test_vectors.md (its ids stand at each test), or
the rule named. Then, for every statement with hypotheses, a witness that they can be met. -/

namespace Sys2Proof.Tests

open Sys2Proof Sys2Proof.Machine

/-! ### States and helpers -/

/-- The RFC key of 95_test_vectors.md, loaded over the reset state, with a moving factor. -/
def rfc (mfLo : Word) : State :=
  { State.reset with
    key := ((((State.reset.key.set 0 0x31323334).set 1 0x35363738).set 2 0x39303132).set 3 0x33343536).set 4 0x37383930
    keyLen := 0x14
    mfLo := mfLo }

/-- The engine with a digest in DIGEST and DV = 1. -/
def digested (d : Vector Word 5) : State := { State.reset with digest := d, dv := true, done := true }

/-- The engine with a truncated value in TRUNC and DV = TV = 1. -/
def truncated (t : BitVec 31) : State := { State.reset with trunc := t, dv := true, tv := true, done := true }

/-- The digest of vector H1. -/
def digestH1 : Vector Word 5 := #v[0x75A48A19, 0xD4CBE100, 0x644E8AC1, 0x397EEA74, 0x7A2D33AB]

/-- A state with a command in progress. -/
def inProgress (op digits : BitVec 4) (s : State) : State :=
  { s with busy := true, done := false, curOp := op, curDigits := digits }

/-- The outcome is a next state that passes a check. -/
def nextWith (o : Host.Outcome State Fault Refusal) (p : State → Bool) : Bool :=
  match o with
  | .next t => p t
  | .fault _ => false
  | .refused _ => false

/-! ### Well-formedness smoke (R52, R82, R92) -/

theorem test_illformed_code_subscript : (Line.rd (.code 4)).wellFormed = false := by decide
theorem test_illformed_digest_subscript : (Line.rd (.digest 5)).wellFormed = false := by decide
theorem test_illformed_key_subscript : (Line.wr (.key 32) 0).wellFormed = false := by decide
theorem test_illformed_index : (Line.wr (.raw 64) 0).wellFormed = false := by decide
theorem test_illformed_fmt_digits : (Line.cmdFmt 16).wellFormed = false := by decide
theorem test_illformed_gen_digits : (Line.cmdGen 16).wellFormed = false := by decide
theorem test_illformed_empty_key : (Line.loadKey []).wellFormed = false := by decide
theorem test_illformed_long_key : (Line.loadKey (List.replicate 129 0)).wellFormed = false := by
  decide +kernel
theorem test_wellformed_lines :
    ([.rd (.code 3), .rd (.digest 4), .wr (.key 31) 0, .wr (.raw 63) 0, .cmdFmt 15, .cmdGen 0,
      .loadKey (List.replicate 128 0)] : List Line).all Line.wellFormed = true := by decide +kernel
theorem test_assemble_refuses : assemble [.cmdHmac, .cmdGen 16] = none := by decide

/-! ### Decoding: words written out from R81 and R83 -/

theorem test_decode_hmac : decode 0b00000000000000000000000000000001 = .legal .hmac := by decide
theorem test_decode_dt : decode 0b00000000000000000000000000000010 = .legal .dt := by decide
theorem test_decode_fmt : decode 0b00000000000000000000011000000011 = .legal (.fmt 6) := by decide
theorem test_decode_gen : decode 0b00000000000000000000100000000100 = .legal (.gen 8) := by decide
theorem test_decode_zero : decode 0b00000000000000000000000000000101 = .legal .zero := by decide
/-- 95_test_vectors.md section 6. -/
theorem test_decode_illegal :
    ([0x00000000, 0x00000006, 0x0000000F, 0x00000101, 0x00000102, 0x00000105, 0x00000014, 0x00001004, 0x80000004,
      0xFFFFFFFF] : List Word).all (fun w => (decode w).instr? = none) = true := by decide
theorem test_encode : encode .hmac = 1 ∧ encode .dt = 2 ∧ encode (.fmt 15) = 0xF03 ∧ encode (.gen 6) = 0x604
    ∧ encode .zero = 5 := by decide
theorem test_table_word : decodeTableWord 32 0x604 = some (.gen 6) ∧ decodeTableWord 8 0x3 = some (.fmt 0)
    ∧ decodeTableWord 32 0x14 = none := by decide
/-- R91: `CMD GEN, 6` is `(1, 0x01, 0x00000604)`. -/
theorem test_transaction_pattern :
    encodeTransaction (.regWrite 0x01 0x604) = 0b100000100000000000000000000011000000100 := by decide

/-! ### SHA-1 and HMAC -/

/-- A2, "abc". -/
theorem test_sha1_abc : sha1 [0x61, 0x62, 0x63] =
    [0xa9, 0x99, 0x3e, 0x36, 0x47, 0x06, 0x81, 0x6a, 0xba, 0x3e, 0x25, 0x71, 0x78, 0x50, 0xc2, 0x6c, 0x9c, 0xd0, 0xd8,
     0x9d] := by decide +kernel
/-- A5, three blocks. -/
theorem test_sha1_three_blocks : sha1 ((List.range 128).map (BitVec.ofNat 8)) =
    [0xe6, 0x43, 0x4b, 0xc4, 0x01, 0xf9, 0x86, 0x03, 0xd7, 0xed, 0xa5, 0x04, 0x79, 0x0c, 0x98, 0xc6, 0x73, 0x85, 0xd5,
     0x35] := by decide +kernel
/-- A2's trace: W[16] = C2C4C700, W[79] = 822E0879. -/
theorem test_schedule_abc : (schedule (pad [0x61, 0x62, 0x63])).getD 16 0 = 0xC2C4C700
    ∧ (schedule (pad [0x61, 0x62, 0x63])).getD 79 0 = 0x822E0879 := by decide +kernel
/-- H22, H23: a key of 64 bytes is used as it is, one of 65 bytes is hashed. -/
theorem test_hmac_key_block_edge :
    digestWords (hmacSha1 ((List.range 64).map (BitVec.ofNat 8)) (bytesBE 0x0123456789ABCDEF 8))
        = #v[0x41E8237F, 0x0E774E01, 0x0DA938A9, 0x43EC56C6, 0x054AED51]
      ∧ digestWords (hmacSha1 ((List.range 65).map (BitVec.ofNat 8)) (bytesBE 0x0123456789ABCDEF 8))
        = #v[0x3812E1C7, 0xD6568E2B, 0x1F804C99, 0x1DEC63FF, 0x7551BA23] := by decide +kernel

/-! ### The commands, one step each -/

/-- H1: the completion of HMAC, STATUS 0x12. -/
theorem test_hmac_completes : nextWith (step (inProgress 1 0 (rfc 1))) (fun t =>
    t.digest = digestH1 ∧ regRead 0x02 t = 0x12 ∧ t.keyLen = 0x14) = true := by decide +kernel
/-- HE2: KEYLEN = 129 is rejected, STATUS 0x304. -/
theorem test_hmac_key_too_long :
    nextWith (exec .hmac { State.reset with keyLen := 129 }) (fun t => regRead 0x02 t = 0x304) = true := by decide
/-- R137: offset 11, the bytes straddle two words, the top bit is cleared; STATUS 0x32. -/
theorem test_dt_completes : nextWith (step (inProgress 2 0 (digested digestH1))) (fun t =>
    t.offset = 11 ∧ t.trunc = 0x41397EEA ∧ regRead 0x02 t = 0x32) = true := by decide
/-- T15, T18: the largest offset. -/
theorem test_dt_offset_fifteen :
    (doDt (digested #v[0x80818283, 0x84858687, 0x88898A8B, 0x8C8D8E8F, 0x9091925F])).trunc = 0x0F909192
      ∧ (doDt (digested (Vector.replicate 5 0xFFFFFFFF))).trunc = 0x7FFFFFFF := by decide
/-- F23: leading zeros; STATUS 0x72. -/
theorem test_fmt_completes : nextWith (step (inProgress 3 6 (truncated 0x3BAA0CD8))) (fun t =>
    t.bin = 152 ∧ t.codeLen = 6 ∧ t.code = #v[0x30303031, 0x35320000, 0, 0] ∧ regRead 0x02 t = 0x72) = true := by
  decide +kernel
/-- F8: fifteen digits of the largest value. -/
theorem test_fmt_fifteen_digits :
    (doFmt 15 (truncated 0x7FFFFFFF)).code = #v[0x30303030, 0x30323134, 0x37343833, 0x36343700] := by decide +kernel
/-- S1, P1: the source's first vector, STATUS 0x72. -/
theorem test_gen_completes : nextWith (step (inProgress 4 6 (rfc 0))) (fun t =>
    t.digest = #v[0xCC93CF18, 0x508D9493, 0x4C64B65D, 0x8BA7667F, 0xB7CDE4B0] ∧ t.offset = 0 ∧ t.trunc = 0x4C93CF18
      ∧ t.bin = 0xB8618 ∧ t.code = #v[0x37353532, 0x32340000, 0, 0] ∧ regRead 0x02 t = 0x72) = true := by decide +kernel
/-- P3: GEN with DIGITS = 0 and a good key keeps every flag and result, STATUS 0x574. -/
theorem test_gen_zero_digits : nextWith
    (exec (.gen 0) { rfc 1 with dv := true, tv := true, cv := true, done := true, code := #v[0x32383730, 0, 0, 0] })
    (fun t => regRead 0x02 t = 0x574 ∧ regRead 0x0C t = 0x32383730) = true := by decide
/-- P4: ZERO clears the results at acceptance and the operands only at completion. -/
theorem test_zero_accepted :
    nextWith (exec .zero { digested digestH1 with keyLen := 0x80 }) (fun t =>
      regRead 0x02 t = 1 ∧ regRead 0x10 t = 0 ∧ regRead 0x03 t = 0x80) = true := by decide
theorem test_zero_completes :
    nextWith (step (inProgress 5 0 { State.reset with keyLen := 0x80 })) (fun t =>
      regRead 0x02 t = 2 ∧ regRead 0x03 t = 0) = true := by decide

/-! ### The port, reset, host notation, wrapper -/

/-- P4: only bits 7:0 of KEYLEN are kept. -/
theorem test_keylen_truncates :
    nextWith (regWrite 0x03 0x1FF State.reset) (fun t => regRead 0x03 t = 0xFF) = true := by decide
/-- P3: a write while busy is ignored. -/
theorem test_write_while_busy :
    nextWith (regWrite 0x05 7 (inProgress 1 0 (rfc 1))) (fun t => regRead 0x05 t = 1) = true := by decide
/-- P1: KEY is write-only. -/
theorem test_key_write_only : nextWith (regWrite 0x3F 0x12345678 State.reset) (fun t =>
    regRead 0x3F t = 0 ∧ t.key[31] = 0x12345678) = true := by decide
/-- P5: reset while busy; no completion step follows. -/
theorem test_reset_while_busy :
    nextWith (step { inProgress 4 6 (rfc 0) with pending := [.reset] }) (fun t => complete t = State.reset) = true := by
  decide
/-- A placed command is run by the next step (DT from reset: E_SEQ, STATUS 0x404). -/
theorem test_with_fetch_word :
    nextWith (step (State.reset.withFetchWord 32 2)) (fun t => regRead 0x02 t = 0x404) = true := by decide
/-- R57: LOADKEY of the three bytes 00 01 02. -/
theorem test_load_key : expand (.loadKey [0x00, 0x01, 0x02])
    = [.host (.regWrite 0x20 0x00010200), .host (.regWrite 0x03 3)] := by decide
/-- P1: HOTP 6 reads CODELEN, CODE[0] and CODE[1] after STATUS 0x72, and nothing after an error. -/
theorem test_hotp_reads : hotpReads 0x72 6 = [.host (.regRead 0x09), .host (.regRead 0x0C), .host (.regRead 0x0D)]
    ∧ hotpReads 0x204 6 = [] := by decide
/-- R58. -/
theorem test_wrapper : wrapperAt 0x1000 ⟨0x1004, 4, some 5⟩ = .present (.regWrite 0x01 5)
    ∧ wrapperAt 0x1000 ⟨0x10FC, 4, none⟩ = .present (.regRead 0x3F)
    ∧ wrapperAt 0x1000 ⟨0x1100, 4, none⟩ = .refuse .outside ∧ wrapperAt 0x1000 ⟨0x1006, 4, none⟩ = .refuse .misaligned
    ∧ wrapperAt 0x1000 ⟨0x1004, 2, none⟩ = .refuse .width := by decide

/-! ### Witnesses: the hypotheses of each statement can be met -/

theorem wit_DecodeEncodeRoundTrip : decode 0xF04 = .legal (.gen 15) ∧ decode 1 = .legal .hmac := by decide
theorem wit_IllegalWordsAreRejected : decode 0 = .illegal .reservedOpcode ∧ decode 0x10 = .illegal .reservedBits
    ∧ decode 0x101 = .illegal .digitsNotZero ∧ State.reset.busy = false := by decide
theorem wit_WrapperPassesAlignedWords : ∃ x, ∀ t, wrapperAt 0 x ≠ .present t :=
  ⟨⟨2, 4, none⟩, fun t h => by have h' : BusAnswer.refuse .misaligned = .present t := h; cases h'⟩
theorem wit_StepRunsDecodedCommand :
    (State.reset.withFetchWord 32 0x604).pending = .host (.regWrite cmdIndex 0x604) :: []
      ∧ decode 0x604 = .legal (.gen 6) := by decide
theorem wit_StepOfOtherActions :
    (State.reset.withPending [rd .status]).pending = .host (.regRead 0x02) :: []
      ∧ (State.reset.withPending [wr .keyLen 1]).pending = .host (.regWrite 0x03 1) :: []
      ∧ (State.reset.withPending [.engine]).pending = .engine :: []
      ∧ (State.reset.withPending [.reset]).pending = .reset :: [] ∧ State.reset.pending = [] := by decide
theorem wit_RegReadMap_busy : (inProgress 1 0 (rfc 0)).Inv ∧ (inProgress 1 0 (rfc 0)).busy = true
    ∧ (inProgress 3 1 (rfc 0)).curOp = 3 := by
  refine ⟨⟨⟨?_, ?_, ?_, ?_, ?_, ?_, ?_⟩, ⟨?_, ?_, ?_, ?_⟩⟩, ?_, ?_⟩ <;> decide
theorem wit_RegReadMap : regRead 0x01 State.reset = 0 ∧ regRead 0x0A State.reset = 0 ∧ regRead 0x0B State.reset = 0
    ∧ regRead 0x15 State.reset = 0 ∧ regRead 0x14 (digested digestH1) = 0x7A2D33AB ∧ regRead 0x3F (rfc 0) = 0 := by decide
theorem wit_IdleWriteStoresOperand : State.reset.busy = false ∧ decode 1 = .legal .hmac
    ∧ decode 0 = .illegal .reservedOpcode
    ∧ nextWith (regWrite 0x1F 1 State.reset) (· = State.reset) = true
    ∧ nextWith (regWrite 0x06 1 State.reset) (· = State.reset) = true
    ∧ nextWith (regWrite 0x20 1 State.reset) (fun t => t.key[0] = 1) = true := by decide
theorem wit_BusyWritesAreLost : (inProgress 1 0 (rfc 0)).busy = true := by decide
theorem wit_ReservedAndWrongDirection : (0x101 : Word).extractLsb' 0 8 = (0x001 : Word).extractLsb' 0 8
    ∧ nextWith (regWrite 0x14 1 (digested digestH1)) (· = digested digestH1) = true
    ∧ regRead 0x1F (digested digestH1) = 0 ∧ regRead 0x20 (rfc 0) = 0 := by decide
theorem wit_HmacCompletes : (rfc 0).busy = false ∧ (rfc 0).keyLen ≠ 0 ∧ (rfc 0).keyLen.toNat ≤ 128
    ∧ ({ rfc 0 with keyLen := 128 } : State).keyLen.toNat ≤ 128 := by decide
theorem wit_DtCompletes : (digested digestH1).busy = false ∧ (digested digestH1).dv = true := by decide
theorem wit_FmtCompletes : (truncated 5).busy = false ∧ (truncated 5).tv = true ∧ (truncated 5).dv = true
    ∧ (15 : BitVec 4) ≠ 0 := by decide
theorem wit_GenCompletes : (rfc 0).busy = false ∧ (rfc 0).keyLen ≠ 0 ∧ (rfc 0).keyLen.toNat ≤ 128
    ∧ (1 : BitVec 4) ≠ 0 := by decide
theorem wit_ZeroCompletes : (rfc 0).busy = false := by decide
theorem wit_KeyErrorsReject : State.reset.busy = false ∧ State.reset.keyLen = 0
    ∧ 129 ≤ ({ State.reset with keyLen := 129 } : State).keyLen.toNat := by decide
theorem wit_SequenceErrorsReject : State.reset.busy = false ∧ State.reset.dv = false ∧ State.reset.tv = false := by decide
theorem wit_DigitsErrorRejects : (truncated 5).busy = false ∧ (truncated 5).tv = true ∧ (rfc 0).busy = false
    ∧ (rfc 0).keyLen ≠ 0 ∧ (rfc 0).keyLen.toNat ≤ 128 := by decide
theorem wit_LowestErrorCodeWins : State.reset.busy = false ∧ causeApplies 0x604 State.reset .keyEmpty
    ∧ causeApplies 0x004 State.reset .digits ∧ causeApplies 0x002 State.reset .seq :=
  ⟨rfl, ⟨.inr ⟨6, by decide⟩, rfl⟩, .inr (by decide), .inl ⟨by decide, rfl⟩⟩
theorem wit_RejectionIsPrecise : State.reset.busy = false ∧ decode 0x101 = .illegal .digitsNotZero
    ∧ decode 1 = .legal .hmac ∧ check .hmac State.reset = some .keyEmpty ∧ decode 2 = .legal .dt
    ∧ check .dt State.reset = some .seq ∧ decode 4 = .legal (.gen 0) ∧ check (.gen 0) (rfc 0) = some .digits := by decide
theorem wit_ErrorStandsUntilNextCommand :
    nextWith (perform (rd .status) { State.reset with err := true, errCode := 2 }) (fun t => t.errCode = 2) = true
      ∧ rd .status ≠ .reset
      ∧ nextWith (perform (cmd .dt) { State.reset with err := true, errCode := 2 }) (fun t => t.errCode = 4) = true
      ∧ decode 2 = .legal .dt ∧ check .dt { State.reset with err := true, errCode := 2 } = some .seq
      ∧ nextWith (perform (wr .cmd 6) { State.reset with err := true, errCode := 2 }) (fun t => t.errCode = 1) = true
      ∧ decode 6 = .illegal .reservedOpcode
      ∧ nextWith (perform (cmd .zero) { State.reset with err := true, errCode := 2 }) (fun t => ¬t.err ∧ t.busy) = true
      ∧ decode 5 = .legal .zero ∧ check .zero { State.reset with err := true, errCode := 2 } = none
      ∧ nextWith (perform .reset { State.reset with err := true, errCode := 2 }) (fun t => t.errCode = 0) = true := by decide
theorem wit_FirstCommandAfterReset : decode 6 = .illegal .reservedOpcode := by decide
theorem wit_CommandWriteFrame : nextWith (exec .hmac (rfc 0)) (fun t => t.busy) = true
    ∧ nextWith (exec .dt (digested digestH1)) (fun t => t.busy) = true
    ∧ nextWith (exec (.fmt 1) (truncated 5)) (fun t => t.busy) = true ∧ (inProgress 1 0 (rfc 0)).busy = true := by decide
theorem wit_CompletionFrame : (inProgress 1 0 (rfc 0)).busy = true ∧ (inProgress 1 0 (rfc 0)).curOp = 1
    ∧ (inProgress 2 0 (rfc 0)).curOp = 2 ∧ (inProgress 3 1 (rfc 0)).curOp = 3 ∧ (inProgress 5 0 (rfc 0)).curOp = 5 := by
  decide
theorem wit_OnlyTheseActionsChangeState :
    nextWith (step (State.reset.withPending [wr .keyLen 9])) (fun t => t.keyLen ≠ State.reset.keyLen) = true
      ∧ nextWith (step ((digested digestH1).withPending [cmd .zero])) (fun t => t.dv ≠ true ∧ t.busy) = true := by decide
theorem wit_KeyIsUnreadable : nextWith (step ((rfc 0).withPending [rd (.key 0)])) (fun t => t.replies = [0]) = true
    ∧ (rfc 0).busy = false := by decide
theorem wit_KeyBytesInUse : (rfc 0).keyLen.toNat ≤ 128 ∧ 19 < (rfc 0).keyLen.toNat
    ∧ ({ rfc 0 with keyLen := 128 } : State).keyLen.toNat ≤ 128 ∧ (inProgress 1 0 (rfc 0)).curOp ≠ 5
    ∧ keyBytes { rfc 0 with key := (rfc 0).key.set 5 0xFFFFFFFF } = keyBytes (rfc 0) := by decide +kernel
theorem wit_PaddingLength : (List.replicate 72 (0 : Byte)).length = 72 ∧ (List.replicate 119 (0 : Byte)).length = 119
    ∧ (List.replicate 120 (0 : Byte)).length = 120 := by decide
theorem wit_KeyBlockAndTrailingZeros : ([1] : List Byte).length + 63 ≤ 64
    ∧ 64 < (List.replicate 65 (0 : Byte)).length := by decide
theorem wit_HmacConstruction : (bytesBE 1 8).length = 8 := by decide
theorem wit_CompressionCount : (bytesBE 1 8).length = 8 ∧ (List.replicate 119 (0 : Byte)).length = 119
    ∧ (List.replicate 120 (0 : Byte)).length = 120 := by decide
theorem wit_DigestRegistersHoldHash : (bytesBE 1 20).length = 20
    ∧ (digested (digestWords (bytesBE 1 20))).digest = digestWords (bytesBE 1 20) := by decide
theorem wit_TruncationIsMaskedBigEndian : (bytesBE 1 20).length = 20 := by decide
theorem wit_TruncationDependsOnFiveBytes :
    byteAt (bytesBE 0x51 20) 19 &&& 0x0F = byteAt (bytesBE 0x61 20) 19 &&& 0x0F
      ∧ byteAt (bytesBE 0x51 20) 1 = byteAt (bytesBE 0x61 20) 1 ∧ byteAt (bytesBE 0x51 20) 4 = byteAt (bytesBE 0x61 20) 4 := by
  decide
theorem wit_ReductionFitsBin : 10 ≤ 10 ∧ binOf 0x7FFFFFFF 10 = 2147483647 := by decide
theorem wit_CharactersAreAllDigits : 999 < 10 ^ 3 ∧ charsOf 7 2 = [0x30, 0x37] := by decide
theorem wit_CodeBufferHoldsCharacters : (1 : BitVec 4) ≠ 0 ∧ (15 : BitVec 4) ≠ 0 ∧ (4 : BitVec 4).toNat ≤ 4 * 1 := by decide
theorem wit_ShorterCodeIsSuffix : 6 < 8 ∧ charsOf (binOf 1094287082 8) 8 = [0x39, 0x34, 0x32, 0x38, 0x37, 0x30, 0x38, 0x32] := by
  decide
theorem wit_GenDeliversTruncatedCode : (rfc 1).busy = false ∧ (rfc 1).keyLen ≠ 0 ∧ (rfc 1).keyLen.toNat ≤ 128
    ∧ (8 : BitVec 4) ≠ 0 := by decide
theorem wit_GenEqualsThreeCommands : (rfc 1).busy = false ∧ (rfc 1).keyLen ≠ 0 ∧ (rfc 1).keyLen.toNat ≤ 128
    ∧ (15 : BitVec 4) ≠ 0 := by decide
/-- Two states that hold different results and the same operands. -/
theorem wit_ResultsDependOnOperandsOnly :
    keyBytes (rfc 1) = keyBytes { rfc 1 with cv := true, bin := 5 } ∧ check .hmac (rfc 1) = none
      ∧ check (.gen 6) (rfc 1) = none ∧ nextWith (exec .hmac (rfc 1)) (fun t => t.busy) = true
      ∧ nextWith (exec .dt (digested digestH1)) (fun t => t.busy) = true
      ∧ nextWith (exec (.fmt 3) (truncated 9)) (fun t => t.busy) = true := by decide +kernel
theorem wit_ResetAbandonsCommand :
    nextWith (perform .engine (inProgress 5 0 (rfc 0))) (fun t => t.busy = false) = true
      ∧ nextWith (perform .reset (inProgress 5 0 (rfc 0))) (fun t => t.busy = false) = true := by decide
/-- The invariant's states are not only idle ones: the acceptance of HMAC from reset with a key is one. -/
theorem wit_StepKeepsInvariant : (rfc 0).Rule35 ∧ (rfc 0).InProgress ∧ (inProgress 1 0 (rfc 0)).Rule35
    ∧ (inProgress 1 0 (rfc 0)).InProgress := by
  refine ⟨⟨?_, ?_, ?_, ?_, ?_, ?_, ?_⟩, ⟨?_, ?_, ?_, ?_⟩, ⟨?_, ?_, ?_, ?_, ?_, ?_, ?_⟩, ⟨?_, ?_, ?_, ?_⟩⟩ <;> decide
theorem wit_ReachableStatesMeetRule35 : (State.reset.withPending [wr .keyLen 9]).reachable := ⟨[wr .keyLen 9], 0, rfl⟩
theorem wit_BusyEngineCompletes : (inProgress 1 0 (rfc 0)).busy = true
    ∧ .reset ∉ ((inProgress 1 0 (rfc 0)).withPending [rd .status, wr .mfLo 7, .engine]).pending := by decide
theorem wit_ResultsOutliveOperandWrites :
    ((digested digestH1).withPending [wr .mfLo 2]).pending.head? = some (.host (.regWrite 0x05 2))
      ∧ (0x05 : BitVec 6) ≠ cmdIndex
      ∧ nextWith (step ((digested digestH1).withPending [wr .mfLo 2])) (fun t => t.mfLo = 2) = true := by decide

end Sys2Proof.Tests
end

section
/-! PROOFS. Sequences of bytes as the registers hold them: what packing a sequence into words and unpacking it again
gives, and the moving factor as eight bytes. -/

namespace Sys2Proof.Machine

/-- The words that pack a sequence of 4*n bytes unpack to that sequence (R57). -/
theorem packedBytes_beWords (n : Nat) (bs : List Byte) (h : bs.length = 4 * n) :
    packedBytes ((List.range n).map fun j => beWord bs (4 * j)) = bs := by
  induction n generalizing bs with
  | zero => rw [List.length_eq_zero_iff.1 h]; rfl
  | succ n ih =>
    match bs, h with
    | b0 :: b1 :: b2 :: b3 :: rest, h =>
      have hrest : rest.length = 4 * n := by simp only [List.length_cons] at h; omega
      have hhead : wordBytes (beWord (b0 :: b1 :: b2 :: b3 :: rest) 0) = [b0, b1, b2, b3] :=
        wordBytes_be32 b0 b1 b2 b3
      have htail (j : Nat) : beWord (b0 :: b1 :: b2 :: b3 :: rest) (4 * (j + 1)) = beWord rest (4 * j) := rfl
      rw [List.range_succ_eq_map, List.map_cons, List.map_map, packedBytes_cons, Nat.mul_zero, hhead]
      simp only [Function.comp_def, Nat.succ_eq_add_one, htail, ih rest hrest, List.cons_append, List.nil_append]

/-- DIGEST registers that hold a 20-byte sequence hold its bytes unchanged (R117). -/
theorem digestBytes_of_digestWords (s : State) (bs : List Byte) (hlen : bs.length = 20)
    (h : s.digest = digestWords bs) : digestBytes s = bs := by
  rw [digestBytes, h]
  exact packedBytes_beWords 5 bs hlen

/-- A CODE buffer that holds a 16-byte sequence holds its bytes unchanged (R144). -/
theorem codeBytes_of_codeWords (s : State) (bs : List Byte) (hlen : bs.length = 16)
    (h : s.code = codeWords bs) : codeBytes s = bs := by
  rw [codeBytes, h]
  exact packedBytes_beWords 4 bs hlen

theorem movingFactor_toNat (s : State) : (movingFactor s).toNat = s.mfHi.toNat * 2 ^ 32 + s.mfLo.toNat := by
  rw [movingFactor, BitVec.toNat_append, ← Nat.shiftLeft_add_eq_or_of_lt s.mfLo.isLt, Nat.shiftLeft_eq]

/-- The message is the moving factor as eight big-endian bytes (R111). -/
theorem mfBytes_eq_bytesBE (s : State) : mfBytes s = bytesBE (s.mfHi.toNat * 2 ^ 32 + s.mfLo.toNat) 8 := by
  have hhi := s.mfHi.isLt
  have hlo := s.mfLo.isLt
  simp only [mfBytes, wordBytes, bytesBE, List.range_succ, List.range_zero, List.nil_append, List.cons_append,
    List.map_cons, List.map_nil, List.cons.injEq, and_true]
  refine ⟨?_, ?_, ?_, ?_, ?_, ?_, ?_, ?_⟩ <;> apply BitVec.eq_of_toNat_eq <;>
    simp only [BitVec.extractLsb'_toNat, BitVec.toNat_ofNat, Nat.shiftRight_eq_div_pow] <;> omega

end Sys2Proof.Machine
end

section
/-! PROOFS. The truncation, the reduction and the code string as numbers and characters (R130, R131, R142, R144). -/

namespace Sys2Proof.Machine

/-- The low nibble of the last byte loses nothing in the four bits of OFFSET (R130). -/
theorem offsetOf_toNat (digest : List Byte) : (offsetOf digest).toNat = (byteAt digest 19 &&& 0x0F).toNat := by
  have h : (byteAt digest 19 &&& 0x0F).toNat ≤ 15 := by
    rw [BitVec.toNat_and]; exact Nat.and_le_right
  rw [offsetOf, BitVec.toNat_setWidth, Nat.mod_eq_of_lt (Nat.lt_succ_of_le h)]

/-- With the sign bit cleared the word fits the 31 bits of TRUNC (R131). -/
theorem truncOf_toNat (digest : List Byte) :
    (truncOf digest).toNat = (beWord digest (byteAt digest 19 &&& 0x0F).toNat &&& 0x7FFFFFFF).toNat := by
  have h : (beWord digest (byteAt digest 19 &&& 0x0F).toNat &&& 0x7FFFFFFF).toNat ≤ 0x7FFFFFFF := by
    rw [BitVec.toNat_and]; exact Nat.and_le_right
  rw [truncOf, offsetOf_toNat, BitVec.toNat_setWidth, Nat.mod_eq_of_lt (Nat.lt_succ_of_le h)]

/-- A truncated value reduced to d digits fits the 31 bits of BIN (R142). -/
theorem ofNat_binOf_toNat (t : BitVec 31) (d : Nat) : (BitVec.ofNat 31 (binOf t.toNat d)).toNat = t.toNat % 10 ^ d := by
  rw [binOf, BitVec.toNat_ofNat, Nat.mod_eq_of_lt (Nat.lt_of_le_of_lt (Nat.mod_le _ _) t.isLt)]

theorem code16_length (b d : Nat) (h : d ≤ 16) : (code16 b d).length = 16 := by
  rw [code16, List.length_append, charsOf_length, List.length_replicate, Nat.add_sub_of_le h]

theorem code16_take (b d : Nat) : (code16 b d).take d = charsOf b d := by
  rw [code16, List.take_left' (charsOf_length b d)]

/-- After the formatting at d characters the code string is those characters (R144). -/
theorem codeString_doFmt (d : BitVec 4) (s : State) :
    codeString (doFmt d s) = charsOf (s.trunc.toNat % 10 ^ d.toNat) d.toNat := by
  have hlen := code16_length (binOf s.trunc.toNat d.toNat) d.toNat (Nat.le_of_lt d.isLt)
  rw [codeString, codeBytes_of_codeWords _ _ hlen rfl]
  exact code16_take _ _

end Sys2Proof.Machine
end

section
/-! PROOFS. GEN end to end: its acceptance, its completion step, and the results it leaves (R2, R160, R161). -/

namespace Sys2Proof.Machine

/-- An idle engine with a key of 1 to 128 bytes accepts GEN for every d but 0 (R87). -/
theorem exec_gen_accepted (s : State) (d : BitVec 4) (hidle : s.busy = false) (hkey : s.keyLen ≠ 0)
    (hmax : s.keyLen.toNat ≤ 128) (hd : d ≠ 0) : exec (.gen d) s = .next (accept (.gen d) s) := by
  have hcheck : check (.gen d) s = none := by
    rw [check, checkKey_none s hkey hmax, (checkDigits_eq_none d).2 hd]; rfl
  rw [exec_eq_issue, issue_accepted _ s hidle hcheck]

/-- Acceptance changes no operand, so the completion step reads the key as it stood at the CMD write (R90, R110). -/
theorem keyBytes_accept (i : Instr) (s : State) : keyBytes (accept i s) = keyBytes s := by
  cases i <;> rfl

/-- Acceptance changes no operand, so the completion step reads the moving factor as it stood at the CMD write (R90,
R111). -/
theorem mfBytes_accept (i : Instr) (s : State) : mfBytes (accept i s) = mfBytes s := by
  cases i <;> rfl

/-- The completion step of an accepted GEN runs the three units on the accepted state (R89, R161). -/
theorem complete_accept_gen (d : BitVec 4) (s : State) :
    complete (accept (.gen d) s) = (doGen d (accept (.gen d) s)).finish := rfl

/-- The digest of GEN: that of HMAC over the key and the moving factor (R114). -/
theorem digestBytes_doGen (d : BitVec 4) (s : State) : digestBytes (doGen d s) = hmacSha1 (keyBytes s) (mfBytes s) :=
  digestBytes_of_digestWords _ _ (hmacSha1_length _ _) rfl

/-- GEN leaves the offset of its own digest, as DT would (R135). -/
theorem doGen_offset (d : BitVec 4) (s : State) : (doGen d s).offset = offsetOf (digestBytes (doGen d s)) := rfl

/-- GEN leaves the truncation of its own digest, as DT would (R135). -/
theorem doGen_trunc (d : BitVec 4) (s : State) : (doGen d s).trunc = truncOf (digestBytes (doGen d s)) := rfl

theorem doGen_bin_toNat (d : BitVec 4) (s : State) : (doGen d s).bin.toNat = (doGen d s).trunc.toNat % 10 ^ d.toNat :=
  ofNat_binOf_toNat _ _

theorem codeString_doGen (d : BitVec 4) (s : State) :
    codeString (doGen d s) = charsOf ((doGen d s).trunc.toNat % 10 ^ d.toNat) d.toNat :=
  codeString_doFmt d _

/-- Settles O49: GEN is accepted, and its completion is the three units in series on the operands of `s`, each of which
keeps what it hands to the next in a register wide enough for it. -/
theorem genDeliversTruncatedCode : Obligations.GenDeliversTruncatedCode := by
  unfold Obligations.GenDeliversTruncatedCode
  intro s d hidle hkey hmax hd
  refine ⟨accept (.gen d) s, exec_gen_accepted s d hidle hkey hmax hd, ?_⟩
  rw [complete_accept_gen]
  intro u digest offset trunc
  have hdigest : digestBytes u = digest := by
    calc digestBytes u = hmacSha1 (keyBytes (accept (.gen d) s)) (mfBytes (accept (.gen d) s)) := digestBytes_doGen d _
      _ = digest := by rw [keyBytes_accept, mfBytes_accept, mfBytes_eq_bytesBE]
  have hoffset : u.offset.toNat = offset := by
    calc u.offset.toNat = (offsetOf (digestBytes u)).toNat := congrArg BitVec.toNat (doGen_offset d _)
      _ = offset := by rw [hdigest, offsetOf_toNat]
  have htrunc : u.trunc.toNat = trunc := by
    calc u.trunc.toNat = (truncOf (digestBytes u)).toNat := congrArg BitVec.toNat (doGen_trunc d _)
      _ = trunc := by rw [hdigest, truncOf_toNat]
  have hbin : u.bin.toNat = trunc % 10 ^ d.toNat := htrunc ▸ doGen_bin_toNat d _
  have hcode : codeString u = charsOf (trunc % 10 ^ d.toNat) d.toNat := htrunc ▸ codeString_doGen d _
  have hsource : truncatedCode (keyBytes s) (movingFactor s) d.toNat = charsOf (trunc % 10 ^ d.toNat) d.toNat := by
    rw [truncatedCode, movingFactor_toNat, truncOf_toNat, binOf]
  exact ⟨hdigest, hoffset, htrunc, hbin, hcode, by rw [hcode, charsOf_length], hcode.trans hsource.symm⟩

end Sys2Proof.Machine
end

section
/-! PROOFS. The state after reset as the host sees it (R39, R53). -/

namespace Sys2Proof.Machine

/-- With every flag clear and no error code the STATUS word is 0 (R31, R39). -/
@[simp] theorem statusWord_reset : statusWord State.reset = 0 := rfl

/-- After reset a host reads 0 at every index: at STATUS because all its fields are clear, at a register because it holds
zero, and elsewhere because nothing is there to read (R39, R53, R56). -/
@[simp] theorem regRead_reset (a : BitVec 6) : regRead a State.reset = 0 := by
  unfold regRead
  split
  case h_1 => exact statusWord_reset
  all_goals rfl

/-- Settles O52: the registers and flags are zero by the definition of the reset state, and so is what is read of them. -/
theorem resetLeavesZero : Obligations.ResetLeavesZero := by
  unfold Obligations.ResetLeavesZero
  exact ⟨rfl, rfl, rfl, rfl, rfl, rfl, rfl, rfl, rfl, rfl, rfl, rfl, rfl, rfl, rfl, rfl, rfl, rfl, rfl,
    regRead_reset⟩

end Sys2Proof.Machine
end

section
/-! PROOFS. The platform wrapper: which bus accesses reach the port, and as which transaction (R58). -/

namespace Sys2Proof.Machine

/-- A naturally aligned 32-bit access to word index a (R58). -/
def BusAccess.isWordAt (base : Nat) (x : BusAccess) (a : BitVec 6) : Prop :=
  x.bytes = 4 ∧ x.addr % 4 = 0 ∧ x.addr = base + 4 * a.toNat

/-- The transaction an access is when it is passed on at word index a (R58). -/
def BusAccess.transactionAt (x : BusAccess) (a : BitVec 6) : Transaction :=
  match x.store with
  | none => .regRead a
  | some v => .regWrite a v

/-- The wrapper passes on a well-placed access at its word index. -/
theorem wrapperAt_of_isWordAt (base : Nat) (x : BusAccess) (a : BitVec 6) (h : x.isWordAt base a) :
    wrapperAt base x = .present (x.transactionAt a) := by
  obtain ⟨hbytes, haligned, haddr⟩ := h
  have hbound := a.isLt
  have hinside : ¬(x.addr < base ∨ base + 0xFC < x.addr) := by omega
  have hword : ¬(x.addr % 4 ≠ 0 ∨ (x.addr - base) % 4 ≠ 0) := by omega
  have hindex : BitVec.ofNat 6 ((x.addr - base) / 4) = a := by
    rw [haddr, Nat.add_sub_cancel_left, Nat.mul_div_cancel_left _ (by decide), BitVec.ofNat_toNat, BitVec.setWidth_eq]
  rw [wrapperAt, if_neg (not_not.2 hbytes), if_neg hinside, if_neg hword, hindex, BusAccess.transactionAt]
  cases x.store <;> rfl

/-- Every access the wrapper does not refuse is a well-placed one. -/
theorem isWordAt_or_refused (base : Nat) (x : BusAccess) :
    (∃ a, x.isWordAt base a) ∨ ∃ why, wrapperAt base x = .refuse why := by
  unfold wrapperAt
  split_ifs with hbytes hrange haligned
  · exact .inr ⟨_, rfl⟩
  · exact .inr ⟨_, rfl⟩
  · exact .inr ⟨_, rfl⟩
  · refine .inl ⟨BitVec.ofNat 6 ((x.addr - base) / 4), not_not.1 hbytes, by omega, ?_⟩
    rw [BitVec.toNat_ofNat]
    omega

/-- Settles O6: a well-placed access is passed on at its index, and every other one is refused. -/
theorem wrapperPassesAlignedWords : Obligations.WrapperPassesAlignedWords := by
  unfold Obligations.WrapperPassesAlignedWords
  refine ⟨fun base x t => ⟨fun hpresent => ?_, ?_⟩, fun base x hnone => ?_⟩
  · obtain ⟨a, ha⟩ | ⟨why, hrefused⟩ := isWordAt_or_refused base x
    · obtain rfl : x.transactionAt a = t := by
        rw [wrapperAt_of_isWordAt base x a ha] at hpresent
        exact BusAnswer.present.inj hpresent
      obtain ⟨hbytes, haligned, haddr⟩ := ha
      exact ⟨a, hbytes, haligned, haddr, rfl⟩
    · rw [hrefused] at hpresent
      cases hpresent
  · rintro ⟨a, hbytes, haligned, haddr, rfl⟩
    exact wrapperAt_of_isWordAt base x a ⟨hbytes, haligned, haddr⟩
  · obtain ⟨a, ha⟩ | ⟨why, hrefused⟩ := isWordAt_or_refused base x
    · exact absurd (wrapperAt_of_isWordAt base x a ha) (hnone _)
    · rw [hrefused, BusAnswer.actions]

end Sys2Proof.Machine
end

section
/-! PROOFS. Writes at the port: lost while busy, a store while idle, ignored where nothing is writable (R54, R55, R56). -/

namespace Sys2Proof.Machine

/-- A busy engine loses every write (R55). -/
theorem regWrite_busy (a : BitVec 6) (v : Word) (s : State) (h : s.busy = true) : regWrite a v s = .next s := by
  obtain ⟨-, hcmd⟩ | ⟨-, hlost⟩ | ⟨-, hidle, -⟩ := regWrite_cases a v s
  · rw [hcmd, afterCmdWrite_busy v s h]
  · exact hlost
  · simp [h] at hidle

/-- An idle engine stores what is written outside CMD (R54). -/
theorem regWrite_idle (a : BitVec 6) (v : Word) (s : State) (ha : a ≠ cmdIndex) (h : s.busy = false) :
    regWrite a v s = .next (storeOperand a v s) := by
  simp [regWrite, ha, h]

theorem regWrite_cmd_legal (v : Word) (s : State) (i : Instr) (h : decode v = .legal i) :
    regWrite cmdIndex v s = exec i s := by
  simp [regWrite, cmdWrite, h]

theorem regWrite_cmd_illegal (v : Word) (s : State) (why : Illegal) (h : decode v = .illegal why)
    (hidle : s.busy = false) : regWrite cmdIndex v s = .next (reject .illegalCmd s) := by
  simp [regWrite, cmdWrite, h, issueIllegal_idle s hidle]

theorem storeOperand_keyLen (v : Word) (s : State) : storeOperand 0x03 v s = s.setKeyLen v := rfl
theorem storeOperand_mfHi (v : Word) (s : State) : storeOperand 0x04 v s = s.setMfHi v := rfl
theorem storeOperand_mfLo (v : Word) (s : State) : storeOperand 0x05 v s = s.setMfLo v := rfl

/-- KEYLEN keeps the low byte of what is written to it (R23). -/
theorem setKeyLen_congr (v w : Word) (s : State) (h : v.extractLsb' 0 8 = w.extractLsb' 0 8) :
    s.setKeyLen v = s.setKeyLen w := by
  rw [State.setKeyLen, State.setKeyLen, h]

theorem setKey_of_lt (j : Nat) (h : j < 32) (v : Word) (s : State) :
    s.setKey j v = { s with key := s.key.set j v } := by
  have hkey : s.key.setIfInBounds j v = s.key.set j v := by
    ext i hi
    rw [Vector.getElem_setIfInBounds, Vector.getElem_set]
  rw [State.setKey, hkey]

/-- The index 0x20 + j holds KEY[j] (R52). -/
theorem keyIndex_toNat (j : Nat) (h : j < 32) : (BitVec.ofNat 6 (0x20 + j)).toNat = 0x20 + j := by
  rw [BitVec.toNat_ofNat]
  omega

/-- At an index of 0x20 or above the store goes to KEY, since KEYLEN, MF_HI and MF_LO lie below. -/
theorem storeOperand_key (a : BitVec 6) (h : 0x20 ≤ a.toNat) (v : Word) (s : State) :
    storeOperand a v s = s.setKey (a.toNat - 0x20) v := by
  have hne (c : BitVec 6) (hc : c.toNat < 0x20) : a ≠ c := fun e => by rw [e] at h; omega
  rw [storeOperand, if_neg (hne _ (by decide)), if_neg (hne _ (by decide)), if_neg (hne _ (by decide)), if_pos h]

/-- The indices that are neither CMD nor an operand register: reserved or read-only (R52). -/
def unwritableIndex (a : BitVec 6) : Prop := a.toNat = 0 ∨ a.toNat = 2 ∨ 6 ≤ a.toNat ∧ a.toNat < 0x20

/-- A store at an index that is not writable does nothing (R56). -/
theorem storeOperand_unwritable (a : BitVec 6) (h : unwritableIndex a) (v : Word) (s : State) :
    storeOperand a v s = s := by
  unfold unwritableIndex at h
  obtain ⟨rfl, -⟩ | ⟨rfl, -⟩ | ⟨rfl, -⟩ | ⟨hkey, -⟩ | hkept := storeOperand_cases a v s
  · exact absurd h (by decide)
  · exact absurd h (by decide)
  · exact absurd h (by decide)
  · omega
  · exact hkept

/-- A write at an index that is not writable is ignored, busy or idle (R55, R56). -/
theorem regWrite_unwritable (a : BitVec 6) (h : unwritableIndex a) (v : Word) (s : State) :
    regWrite a v s = .next s := by
  cases hb : s.busy with
  | true => exact regWrite_busy a v s hb
  | false =>
    have ha : a ≠ cmdIndex := by
      rintro rfl
      exact absurd h (by unfold unwritableIndex; decide)
    rw [regWrite_idle a v s ha hb, storeOperand_unwritable a h]

/-- A write to KEYLEN depends on the low byte of the word only (R56). -/
theorem regWrite_keyLen_congr (v w : Word) (s : State) (h : v.extractLsb' 0 8 = w.extractLsb' 0 8) :
    regWrite 0x03 v s = regWrite 0x03 w s := by
  cases hb : s.busy with
  | true => rw [regWrite_busy _ _ s hb, regWrite_busy _ _ s hb]
  | false =>
    have ha : (0x03 : BitVec 6) ≠ cmdIndex := by decide
    rw [regWrite_idle _ v s ha hb, regWrite_idle _ w s ha hb, storeOperand_keyLen, storeOperand_keyLen,
      setKeyLen_congr v w s h]

/-- Settles O14: the command procedure and the store outside CMD both ignore a busy engine. -/
theorem busyWritesAreLost : Obligations.BusyWritesAreLost := by
  unfold Obligations.BusyWritesAreLost
  exact fun s a v h => regWrite_busy a v s h

/-- Settles O13: CMD runs the command procedure, the operand indices store, and the others are not writable. -/
theorem idleWriteStoresOperand : Obligations.IdleWriteStoresOperand := by
  unfold Obligations.IdleWriteStoresOperand
  intro s v hidle
  refine ⟨fun i hi => regWrite_cmd_legal v s i hi, fun why hwhy => regWrite_cmd_illegal v s why hwhy hidle,
    regWrite_idle 0x03 v s (by decide) hidle, regWrite_idle 0x04 v s (by decide) hidle,
    regWrite_idle 0x05 v s (by decide) hidle, fun j hj => ?_, fun a ha => regWrite_unwritable a ha v s⟩
  have htoNat := keyIndex_toNat j hj
  have hcmd : BitVec.ofNat 6 (0x20 + j) ≠ cmdIndex := fun e => by
    have hcmdIndex : cmdIndex.toNat = 1 := rfl
    rw [e] at htoNat
    omega
  rw [regWrite_idle _ v s hcmd hidle, storeOperand_key _ (by omega), htoNat, Nat.add_sub_cancel_left, setKey_of_lt j hj]

end Sys2Proof.Machine
end

section
/-! PROOFS. Reads at the port: the register map, what reads 0, and the reserved bits (R31, R53, R56). -/

namespace Sys2Proof.Machine

theorem regRead_status (s : State) : regRead 0x02 s = statusWord s := rfl
theorem regRead_keyLen (s : State) : regRead 0x03 s = s.keyLen.setWidth 32 := rfl
theorem regRead_mfHi (s : State) : regRead 0x04 s = s.mfHi := rfl
theorem regRead_mfLo (s : State) : regRead 0x05 s = s.mfLo := rfl
theorem regRead_offset (s : State) : regRead 0x06 s = s.offset.setWidth 32 := rfl
theorem regRead_trunc (s : State) : regRead 0x07 s = s.trunc.setWidth 32 := rfl
theorem regRead_bin (s : State) : regRead 0x08 s = s.bin.setWidth 32 := rfl
theorem regRead_codeLen (s : State) : regRead 0x09 s = s.codeLen.setWidth 32 := rfl

theorem regRead_code (j : Nat) (h : j < 4) (s : State) : regRead (BitVec.ofNat 6 (0x0C + j)) s = s.code[j] := by
  interval_cases j <;> rfl

theorem regRead_digest (j : Nat) (h : j < 5) (s : State) : regRead (BitVec.ofNat 6 (0x10 + j)) s = s.digest[j] := by
  interval_cases j <;> rfl

/-- CMD, KEY and the reserved indices read 0 (R56). -/
theorem regRead_unreadable (a : BitVec 6)
    (h : a.toNat < 2 ∨ a.toNat = 0x0A ∨ a.toNat = 0x0B ∨ 0x15 ≤ a.toNat) (s : State) : regRead a s = 0 := by
  unfold regRead
  split
  case h_18 => rfl
  all_goals omega

/-- An index at or above b is b plus its distance from b. -/
theorem index_eq_ofNat_add (a : BitVec 6) (b : Nat) (h : b ≤ a.toNat) : a = BitVec.ofNat 6 (b + (a.toNat - b)) := by
  rw [Nat.add_sub_cancel' h, BitVec.ofNat_toNat, BitVec.setWidth_eq]

/-- With a zero digest the DIGEST registers read 0. -/
theorem regRead_digest_zero (s : State) (h : s.digest = Vector.replicate 5 0) (a : BitVec 6) (hlo : 0x10 ≤ a.toNat)
    (hhi : a.toNat ≤ 0x14) : regRead a s = 0 := by
  rw [index_eq_ofNat_add a 0x10 hlo, regRead_digest _ (by omega)]
  simp [h]

/-- With a zero formatting BIN, CODELEN and CODE read 0, as the reserved indices between them do. -/
theorem regRead_code_zero (s : State) (hbin : s.bin = 0) (hlen : s.codeLen = 0) (hcode : s.code = Vector.replicate 4 0)
    (a : BitVec 6) (hlo : 0x08 ≤ a.toNat) (hhi : a.toNat ≤ 0x0F) : regRead a s = 0 := by
  have hrange : a = 0x08 ∨ a = 0x09 ∨ (a.toNat = 0x0A ∨ a.toNat = 0x0B) ∨ 0x0C ≤ a.toNat := by bv_omega
  obtain rfl | rfl | hreserved | hindex := hrange
  · rw [regRead_bin, hbin]; rfl
  · rw [regRead_codeLen, hlen]; rfl
  · exact regRead_unreadable a (by omega) s
  · rw [index_eq_ofNat_add a 0x0C hindex, regRead_code _ (by omega)]
    simp [hcode]

/-- With a zero truncation OFFSET and TRUNC read 0. -/
theorem regRead_trunc_zero (s : State) (hoffset : s.offset = 0) (htrunc : s.trunc = 0) :
    regRead 0x06 s = 0 ∧ regRead 0x07 s = 0 := by
  constructor
  · rw [regRead_offset, hoffset]; rfl
  · rw [regRead_trunc, htrunc]; rfl

/-- Settles O10: the map index by index; and while busy the results the command will write are not valid (R90), and an
invalid result is zero (R35). -/
theorem regReadMap : Obligations.RegReadMap := by
  unfold Obligations.RegReadMap
  refine ⟨fun s => ⟨regRead_status s, regRead_keyLen s, regRead_mfHi s, regRead_mfLo s, regRead_offset s,
    regRead_trunc s, regRead_bin s, regRead_codeLen s, fun j h => regRead_code j h s, fun j h => regRead_digest j h s,
    fun a h => regRead_unreadable a h s⟩, fun s a => ⟨_, rfl, rfl⟩, ?_⟩
  rintro s ⟨hrule, hprogress⟩ hbusy
  obtain ⟨hdigest, htruncation, hcode⟩ := hrule.invalidZero
  obtain ⟨hcv, htv, hdv⟩ := hprogress.cleared hbusy
  refine ⟨?_, fun hop => ?_, fun hfmt hdt => ?_, fun a v t ht => ?_⟩
  · obtain ⟨hbin, hlen, hbuffer⟩ := hcode hcv
    exact regRead_code_zero s hbin hlen hbuffer
  · obtain ⟨hoffset, htrunc⟩ := htruncation (htv hop)
    exact regRead_trunc_zero s hoffset htrunc
  · exact regRead_digest_zero s (hdigest (hdv hfmt hdt))
  · obtain rfl : s = t := Host.Outcome.next.inj ((regWrite_busy a v s hbusy).symm.trans ht)
    exact ⟨rfl, rfl, rfl⟩

/-- The STATUS word as a number: its fields fill the bits below 12, so the sum of R31 does not wrap. -/
theorem statusWord_toNat (s : State) :
    (statusWord s).toNat = s.busy.toNat + 2 * s.done.toNat + 4 * s.err.toNat + 16 * s.dv.toNat + 32 * s.tv.toNat
      + 64 * s.cv.toNat + 256 * s.errCode.toNat := by
  have hbusy := s.busy.toNat_le; have hdone := s.done.toNat_le; have herr := s.err.toNat_le
  have hdv := s.dv.toNat_le; have htv := s.tv.toNat_le; have hcv := s.cv.toNat_le
  have hcode := s.errCode.isLt
  rw [statusWord, BitVec.toNat_ofNat]
  omega

/-- The bits of STATUS that R31 does not name read 0. -/
theorem statusWord_reserved (s : State) :
    (statusWord s).getLsbD 3 = false ∧ (statusWord s).getLsbD 7 = false ∧ (statusWord s).extractLsb' 12 20 = 0 := by
  have hsum := statusWord_toNat s
  have hbusy := s.busy.toNat_le; have hdone := s.done.toNat_le; have herr := s.err.toNat_le
  have hdv := s.dv.toNat_le; have htv := s.tv.toNat_le; have hcv := s.cv.toNat_le
  have hcode := s.errCode.isLt
  refine ⟨?_, ?_, BitVec.eq_of_toNat_eq ?_⟩
  · rw [BitVec.getLsbD, Nat.testBit_eq_decide_div_mod_eq, decide_eq_false_iff_not]
    omega
  · rw [BitVec.getLsbD, Nat.testBit_eq_decide_div_mod_eq, decide_eq_false_iff_not]
    omega
  · rw [BitVec.extractLsb'_toNat, Nat.shiftRight_eq_div_pow]
    change _ = 0
    omega

/-- The bits of a read above a register's width are 0. -/
theorem extractLsb'_setWidth_eq_zero {w : Nat} (x : BitVec w) (start len : Nat) (h : w ≤ start) :
    (x.setWidth 32).extractLsb' start len = 0 := by
  ext i hi
  simp [BitVec.getLsbD_of_ge x (start + i) (by omega)]

/-- The top bit of a read of a 31-bit register is 0. -/
theorem getLsbD_31_setWidth (x : BitVec 31) : (x.setWidth 32).getLsbD 31 = false := by
  simp

/-- Settles O15: reserved indices are neither readable nor writable, read-only registers are not writable, and CMD and
KEY are not readable; a register narrower than a word reads with zeros above it. -/
theorem reservedAndWrongDirection : Obligations.ReservedAndWrongDirection := by
  unfold Obligations.ReservedAndWrongDirection
  refine ⟨fun s a h => ⟨regRead_unreadable a (by bv_omega) s, fun v => regWrite_unwritable a ?_ v s⟩,
    fun s v a h => regWrite_unwritable a ?_ v s, fun s a h => regRead_unreadable a (by bv_omega) s, fun s => ?_⟩
  · unfold unwritableIndex; bv_omega
  · unfold unwritableIndex; bv_omega
  · obtain ⟨hbit3, hbit7, hhigh⟩ := statusWord_reserved s
    exact ⟨extractLsb'_setWidth_eq_zero s.keyLen 8 24 (by decide), extractLsb'_setWidth_eq_zero s.offset 4 28 (by decide),
      getLsbD_31_setWidth s.trunc, getLsbD_31_setWidth s.bin,
      extractLsb'_setWidth_eq_zero s.codeLen 4 28 (by decide), hbit3, hbit7, hhigh,
      fun v w h => regWrite_keyLen_congr v w s h⟩

end Sys2Proof.Machine
end

section
/-! PROOFS. Words and commands: a word by its fields, what the decoder answers for it, and the opcode map (R81, R83, R84,
R85). -/

namespace Sys2Proof

/-- The fields cover the word (R81). -/
theorem word_eq_fields (w : Word) : w = rsv1Field w ++ digitsField w ++ rsv0Field w ++ opField w := by
  rw [rsv1Field, digitsField, rsv0Field, opField, BitVec.extractLsb'_append_extractLsb'_eq_extractLsb' (by decide),
    BitVec.extractLsb'_append_extractLsb'_eq_extractLsb' (by decide),
    BitVec.extractLsb'_append_extractLsb'_eq_extractLsb' (by decide)]
  exact BitVec.extractLsb'_eq_self.symm

/-- The word of given DIGITS and OP is the one with these fields and zero reserved fields (R81). -/
theorem eq_formatC_iff (w : Word) (d op : BitVec 4) :
    w = formatC d op ↔ rsv1Field w = 0 ∧ rsv0Field w = 0 ∧ digitsField w = d ∧ opField w = op := by
  constructor
  · rintro rfl
    exact Laws.FormatC.formatC_fields d op
  · rintro ⟨hrsv1, hrsv0, hdigits, hop⟩
    rw [word_eq_fields w, hrsv1, hrsv0, hdigits, hop]
    rfl

/-- The word as a number: OP + 256*DIGITS when the reserved fields are zero (R81). -/
theorem formatC_eq_ofNat (d op : BitVec 4) : formatC d op = BitVec.ofNat 32 (op.toNat + 256 * d.toNat) := by
  revert d op; decide +kernel

theorem encode_hmac : encode .hmac = 1 := by decide
theorem encode_dt : encode .dt = 2 := by decide
theorem encode_zero : encode .zero = 5 := by decide

theorem encode_fmt_eq_ofNat (d : BitVec 4) : encode (.fmt d) = BitVec.ofNat 32 (3 + 256 * d.toNat) :=
  formatC_eq_ofNat d 3
theorem encode_gen_eq_ofNat (d : BitVec 4) : encode (.gen d) = BitVec.ofNat 32 (4 + 256 * d.toNat) :=
  formatC_eq_ofNat d 4

/-- A command without an immediate is decoded exactly when DIGITS is 0. -/
theorem withoutDigits_eq_legal_iff (d : BitVec 4) (i j : Instr) : withoutDigits d i = .legal j ↔ d = 0 ∧ i = j := by
  unfold withoutDigits
  split_ifs with h
  · simp [h]
  · exact ⟨nofun, fun ⟨hd, _⟩ => absurd hd h⟩

/-- The decoder answers the command whose fields the word has, and answers a command for no other word (R85). -/
theorem decode_eq_legal_iff (w : Word) (i : Instr) : decode w = .legal i ↔ w = encode i := by
  rw [encode, eq_formatC_iff]
  constructor
  · intro h
    unfold decode at h
    split_ifs at h with hreserved
    obtain ⟨hrsv1, hrsv0⟩ := not_or.1 hreserved
    refine ⟨not_not.1 hrsv1, not_not.1 hrsv0, ?_⟩
    split at h
    case h_1 hop | h_2 hop | h_5 hop =>
      obtain ⟨hd, rfl⟩ := (withoutDigits_eq_legal_iff _ _ _).1 h
      exact ⟨hd, BitVec.eq_of_toNat_eq hop⟩
    case h_3 hop | h_4 hop =>
      obtain rfl := Decoded.legal.inj h
      exact ⟨rfl, BitVec.eq_of_toNat_eq hop⟩
    case h_6 => cases h
  · rintro ⟨hrsv1, hrsv0, hdigits, hop⟩
    rw [decode, if_neg (not_or.2 ⟨not_not.2 hrsv1, not_not.2 hrsv0⟩), hop, hdigits]
    cases i <;> rfl

/-- A decoded command has the DIGITS of its word (R82). -/
theorem digitsField_of_decode (w : Word) (i : Instr) (h : decode w = .legal i) : digitsField w = i.digitsField := by
  rw [decode_eq_legal_iff, encode, eq_formatC_iff] at h
  obtain ⟨-, -, hdigits, -⟩ := h
  exact hdigits

/-- A word is illegal exactly when it decodes to no command (R84). -/
theorem exists_illegal_iff (w : Word) : (∃ why, decode w = .illegal why) ↔ ¬∃ i, decode w = .legal i := by
  cases decode w <;> simp

/-- The DIGITS bits 11:8 are the only ones the mask of FMT and GEN leaves free (R83). -/
theorem and_digitsMask_eq_iff (w : Word) (op : BitVec 4) :
    w &&& 0xFFFFF0FF = formatC 0 op ↔ w = formatC (digitsField w) op := by
  have hrsv1 : rsv1Field (w &&& 0xFFFFF0FF) = rsv1Field w := by
    rw [rsv1Field, BitVec.extractLsb'_and]
    exact BitVec.and_allOnes
  have hrsv0 : rsv0Field (w &&& 0xFFFFF0FF) = rsv0Field w := by
    rw [rsv0Field, BitVec.extractLsb'_and]
    exact BitVec.and_allOnes
  have hdigits : digitsField (w &&& 0xFFFFF0FF) = 0 := by
    rw [digitsField, BitVec.extractLsb'_and]
    exact BitVec.and_zero
  have hop : opField (w &&& 0xFFFFF0FF) = opField w := by
    rw [opField, BitVec.extractLsb'_and]
    exact BitVec.and_allOnes
  rw [eq_formatC_iff, eq_formatC_iff, hrsv1, hrsv0, hdigits, hop]
  simp

/-- A row of the opcode map fits exactly the words of its command (R83). -/
theorem fits_iff_decode (r : OpcodeRow) (hr : r ∈ opcodeRows) (w : Word) :
    r.fits w = true ↔ decode w = .legal (r.instr (digitsField w)) := by
  have hfull : w &&& 0xFFFFFFFF = w := BitVec.and_allOnes
  rw [OpcodeRow.fits, beq_iff_eq, decode_eq_legal_iff]
  simp only [opcodeRows, List.mem_cons, List.not_mem_nil, or_false] at hr
  obtain rfl | rfl | rfl | rfl | rfl := hr
  · simp only [hfull, encode_hmac]
  · simp only [hfull, encode_dt]
  · exact and_digitsMask_eq_iff w 3
  · exact and_digitsMask_eq_iff w 4
  · simp only [hfull, encode_zero]

/-- Every command has its row in the opcode map (R83). -/
theorem exists_row (i : Instr) : ∃ r ∈ opcodeRows, r.instr i.digitsField = i := by
  cases i <;> simp [opcodeRows, Instr.digitsField]

/-- No two rows of the opcode map stand for the same command (R83). -/
theorem opcodeRows_pairwise_instr_ne : opcodeRows.Pairwise fun r q => ∀ d, r.instr d ≠ q.instr d := by
  simp [opcodeRows]

/-- The listed legal words are the words of the commands (R83). -/
theorem mem_legalWords_iff (w : Word) : w ∈ legalWords ↔ ∃ i, w = encode i := by
  simp only [legalWords, List.mem_append, List.mem_cons, List.not_mem_nil, or_false, List.mem_map, List.mem_range]
  constructor
  · rintro (((rfl | rfl | rfl) | ⟨n, hn, rfl⟩) | ⟨n, hn, rfl⟩)
    · exact ⟨.hmac, encode_hmac.symm⟩
    · exact ⟨.dt, encode_dt.symm⟩
    · exact ⟨.zero, encode_zero.symm⟩
    · exact ⟨.fmt (BitVec.ofNat 4 n), by rw [encode_fmt_eq_ofNat, BitVec.toNat_ofNat, Nat.mod_eq_of_lt hn]⟩
    · exact ⟨.gen (BitVec.ofNat 4 n), by rw [encode_gen_eq_ofNat, BitVec.toNat_ofNat, Nat.mod_eq_of_lt hn]⟩
  · rintro ⟨i, rfl⟩
    cases i with
    | hmac => exact .inl (.inl (.inl encode_hmac))
    | dt => exact .inl (.inl (.inr (.inl encode_dt)))
    | zero => exact .inl (.inl (.inr (.inr encode_zero)))
    | fmt d => exact .inl (.inr ⟨d.toNat, d.isLt, (encode_fmt_eq_ofNat d).symm⟩)
    | gen d => exact .inr ⟨d.toNat, d.isLt, (encode_gen_eq_ofNat d).symm⟩

/-- The OP and DIGITS fields of the commands are all but those R84 lists as illegal. -/
theorem exists_fields_iff (d op : BitVec 4) :
    (∃ i : Instr, d = i.digitsField ∧ op = i.opcode) ↔
      ¬(op = 0 ∨ 6 ≤ op.toNat ∨ d ≠ 0 ∧ (op = 1 ∨ op = 2 ∨ op = 5)) := by
  constructor
  · rintro ⟨i, rfl, rfl⟩
    cases i <;> simp [Instr.opcode, Instr.digitsField]
  · intro h
    push Not at h
    obtain ⟨hpos, hlt, hdigits⟩ := h
    have hop : op = 1 ∨ op = 2 ∨ op = 3 ∨ op = 4 ∨ op = 5 := by bv_omega
    obtain rfl | rfl | rfl | rfl | rfl := hop
    · exact ⟨.hmac, by simpa [Instr.digitsField] using hdigits, rfl⟩
    · exact ⟨.dt, by simpa [Instr.digitsField] using hdigits, rfl⟩
    · exact ⟨.fmt d, rfl, rfl⟩
    · exact ⟨.gen d, rfl, rfl⟩
    · exact ⟨.zero, by simpa [Instr.digitsField] using hdigits, rfl⟩

/-- A word is a command exactly when its reserved fields are zero and its OP and DIGITS are a command's (R84). -/
theorem exists_legal_iff (w : Word) :
    (∃ i, decode w = .legal i) ↔ rsv1Field w = 0 ∧ rsv0Field w = 0
      ∧ ¬(opField w = 0 ∨ 6 ≤ (opField w).toNat
        ∨ digitsField w ≠ 0 ∧ (opField w = 1 ∨ opField w = 2 ∨ opField w = 5)) := by
  simp only [decode_eq_legal_iff, encode, eq_formatC_iff, exists_and_left, exists_fields_iff]

end Sys2Proof

namespace Sys2Proof.Machine

/-- Settles O2: a row fits a word exactly when the word decodes to the row's command, so no word fits two rows, whose
commands differ. -/
theorem decodeFollowsOpcodeMap : Obligations.DecodeFollowsOpcodeMap := by
  unfold Obligations.DecodeFollowsOpcodeMap
  refine ⟨fun w i => ⟨fun h => ?_, ?_⟩, ?_, fun w => ?_, by decide, rfl, fun s => ⟨?_, ?_⟩⟩
  · obtain ⟨r, hr, hinstr⟩ := exists_row i
    have hdigits : digitsField w = i.digitsField := digitsField_of_decode w i h
    rw [← hdigits] at hinstr
    exact ⟨r, hr, (fits_iff_decode r hr w).2 (hinstr ▸ h), hinstr⟩
  · rintro ⟨r, hr, hfits, rfl⟩
    exact (fits_iff_decode r hr w).1 hfits
  · refine opcodeRows_pairwise_instr_ne.imp_of_mem fun {r q} hr hq hne w ⟨hfitsr, hfitsq⟩ => hne (digitsField w) ?_
    have hsame := ((fits_iff_decode r hr w).1 hfitsr).symm.trans ((fits_iff_decode q hq w).1 hfitsq)
    exact Decoded.legal.inj hsame
  · simp only [decode_eq_legal_iff, mem_legalWords_iff]
  · rw [Ne, check_eq_none]
    exact fun ⟨_, hd⟩ => hd rfl
  · rw [Ne, check_eq_none]
    exact fun ⟨_, hd⟩ => hd rfl

/-- Settles O3: the listed words are those whose fields are no command's, and the command procedure rejects each. -/
theorem illegalWordsAreRejected : Obligations.IllegalWordsAreRejected := by
  unfold Obligations.IllegalWordsAreRejected
  refine ⟨fun w => ?_, fun w s why h hidle => ?_⟩
  · rw [exists_illegal_iff, exists_legal_iff, rsv1Field, rsv0Field, digitsField, opField]
    tauto
  · rw [regWrite_cmd_illegal w s why h hidle, reject_eq]
    rfl

end Sys2Proof.Machine
end

section
/-! PROOFS. SHA-1: the padding, the message schedule, the compression as rounds over it, and the hash as compressions
over the padded blocks (R101, R103, R104, R105, R106). -/

namespace Sys2Proof.Machine

/-! ### The padding -/

/-- The number of zero bytes in the padding of a message of L bytes (R101). -/
def padZeros (L : Nat) : Nat := (55 + 64 - L % 64) % 64

theorem pad_eq (msg : List Byte) :
    pad msg = msg ++ [0x80] ++ List.replicate (padZeros msg.length) 0 ++ bytesBE (8 * msg.length) 8 := rfl

theorem padZeros_fills_block (L : Nat) : (L + 1 + padZeros L + 8) % 64 = 0 := by
  unfold padZeros; omega

/-- No smaller number of zero bytes fills the block (R101). -/
theorem padZeros_le (L j : Nat) (h : (L + 1 + j + 8) % 64 = 0) : padZeros L ≤ j := by
  unfold padZeros; omega

/-- The count of zero bytes is the spec's `(55 - L) mod 64` over the integers (R101). -/
theorem padZeros_eq_emod (L : Nat) : (padZeros L : Int) = (55 - (L : Int)) % 64 := by
  unfold padZeros; omega

theorem pad_length (msg : List Byte) : (pad msg).length = 64 * ((msg.length + 8) / 64 + 1) := by
  have hfills := padZeros_fills_block msg.length
  have hlt : padZeros msg.length < 64 := Nat.mod_lt _ (by decide)
  simp only [pad_eq, List.length_append, List.length_cons, List.length_nil, List.length_replicate, bytesBE_length]
  omega

/-- Settles O34: the zero bytes are the least number that fills the last block, and the lengths follow from theirs. -/
theorem paddingLength : Obligations.PaddingLength := by
  unfold Obligations.PaddingLength
  refine ⟨fun msg _ => ⟨padZeros msg.length, pad_eq msg, padZeros_fills_block _, padZeros_le _, padZeros_eq_emod _,
    pad_length msg⟩, fun msg h => ?_, fun msg h => ?_⟩
  · rw [pad_length]; omega
  · rw [pad_length]; omega

/-! ### The message schedule -/

theorem getD_drop (ws : List Word) (n k : Nat) : (ws.drop n).getD k 0 = ws.getD (n + k) 0 := by
  rw [List.getD_eq_getElem?_getD, List.getElem?_drop, List.getD_eq_getElem?_getD]

theorem extendSchedule_length (n : Nat) (ws : List Word) : (extendSchedule n ws).length = n + ws.length := by
  induction n generalizing ws with
  | zero => exact (Nat.zero_add _).symm
  | succ n ih => rw [extendSchedule, ih, List.length_cons]; omega

/-- The words there were before stand behind the n new ones. -/
theorem extendSchedule_drop (n : Nat) (ws : List Word) : (extendSchedule n ws).drop n = ws := by
  induction n generalizing ws with
  | zero => rfl
  | succ n ih => rw [extendSchedule, ← List.drop_drop, ih]; rfl

/-- Each new word is the recurrence on the words before it, which the list holds behind it (R103). -/
theorem extendSchedule_getD (n : Nat) (ws : List Word) (i : Nat) (h : i < n) :
    (extendSchedule n ws).getD i 0 = nextWord ((extendSchedule n ws).drop (i + 1)) := by
  induction n generalizing ws with
  | zero => omega
  | succ n ih =>
    obtain hlt | rfl : i < n ∨ i = n := by omega
    · exact ih _ hlt
    · have hword : (extendSchedule (i + 1) ws).drop i = nextWord ws :: ws := extendSchedule_drop i _
      calc (extendSchedule (i + 1) ws).getD i 0 = ((extendSchedule (i + 1) ws).drop i).getD 0 0 :=
            (getD_drop _ i 0).symm
        _ = nextWord ws := by rw [hword]; rfl
        _ = nextWord ((extendSchedule (i + 1) ws).drop (i + 1)) := by rw [extendSchedule_drop]

/-- The schedule as it is built, the latest word first. -/
def scheduleLatestFirst (block : List Byte) : List Word := extendSchedule 64 (blockWords block).reverse

theorem schedule_eq_reverse (block : List Byte) : schedule block = (scheduleLatestFirst block).reverse := rfl

theorem scheduleLatestFirst_length (block : List Byte) : (scheduleLatestFirst block).length = 80 := by
  simp [scheduleLatestFirst, extendSchedule_length, blockWords]

theorem schedule_length (block : List Byte) : (schedule block).length = 80 := by
  rw [schedule_eq_reverse, List.length_reverse, scheduleLatestFirst_length]

/-- Word number t of the schedule, in the list that is built latest first. -/
theorem schedule_getD (block : List Byte) (t : Nat) (h : t < 80) :
    (schedule block).getD t 0 = (scheduleLatestFirst block).getD (79 - t) 0 := by
  have hlen := scheduleLatestFirst_length block
  rw [schedule_eq_reverse, List.getD_reverse t (by omega), hlen]

/-- The first sixteen words are the block's own (R103). -/
theorem schedule_getD_of_lt (block : List Byte) (t : Nat) (h : t < 16) :
    (schedule block).getD t 0 = beWord block (4 * t) := by
  have hlen : (blockWords block).length = 16 := by simp [blockWords]
  have hindex : 79 - t = 64 + (15 - t) := by omega
  have hback : 16 - 1 - (15 - t) = t := by omega
  rw [schedule_getD block t (by omega), hindex, ← getD_drop, scheduleLatestFirst, extendSchedule_drop,
    List.getD_reverse _ (by omega), hlen, hback]
  simp [blockWords, h]

/-- Settles O35: the list is built latest first, so word t - k of the schedule stands k places behind word t there. -/
theorem scheduleRecurrence : Obligations.ScheduleRecurrence := by
  unfold Obligations.ScheduleRecurrence
  refine fun block => ⟨schedule_length block, fun t h => schedule_getD_of_lt block t h, fun t hlo hhi => ?_⟩
  have hbehind (k : Nat) (hk : k < 16) :
      (schedule block).getD (t - (k + 1)) 0 = ((scheduleLatestFirst block).drop (79 - t + 1)).getD k 0 := by
    have hindex : 79 - (t - (k + 1)) = 79 - t + 1 + k := by omega
    rw [schedule_getD _ _ (by omega), hindex, getD_drop]
  have hnext : (schedule block).getD t 0 = nextWord ((scheduleLatestFirst block).drop (79 - t + 1)) := by
    rw [schedule_getD block t hhi]
    exact extendSchedule_getD 64 _ _ (by omega)
  rw [hnext, nextWord, hbehind 2 (by decide), hbehind 7 (by decide), hbehind 13 (by decide), hbehind 15 (by decide)]

/-! ### The compression -/

/-- The rounds are a fold over the numbers of the schedule's words (R105). -/
theorem rounds_eq_foldl (t : Nat) (ws : List Word) (x : Chain) :
    rounds t ws x = (List.range ws.length).foldl (fun x i => round (t + i) (ws.getD i 0) x) x := by
  induction ws generalizing t x with
  | nil => rfl
  | cons w ws ih =>
    rw [rounds, ih, List.length_cons, List.range_succ_eq_map, List.foldl_cons, List.foldl_map]
    simp only [Nat.succ_eq_add_one, Nat.add_assoc, Nat.add_comm 1]
    rfl

/-- The round function by the ranges of R104, with the two ranges of the parity function joined. -/
theorem roundF_eq (t : Nat) (b c d : Word) :
    roundF t b c d = if t ≤ 19 then (b &&& c) ||| (~~~b &&& d)
      else if t ≤ 39 ∨ 60 ≤ t then b ^^^ c ^^^ d
      else (b &&& c) ||| (b &&& d) ||| (c &&& d) := by
  rw [ite_or, ← ite_not (60 ≤ t)]
  simp only [roundF, Nat.not_le, Nat.lt_succ_iff]

/-- The round constant by the ranges of R104. -/
theorem roundK_eq (t : Nat) :
    roundK t = if t ≤ 19 then 0x5A827999 else if t ≤ 39 then 0x6ED9EBA1 else if t ≤ 59 then 0x8F1BBCDC
      else 0xCA62C1D6 := by
  simp only [roundK, Nat.lt_succ_iff]

/-- Settles O36: the rounds fold over 0..79, and each is the spec's round with its function and its constant. -/
theorem compressionIsEightyRounds : Obligations.CompressionIsEightyRounds := by
  unfold Obligations.CompressionIsEightyRounds
  intro h block f k x
  have hrounds : rounds 0 (schedule block) h = x := by
    rw [rounds_eq_foldl, schedule_length]
    refine List.foldl_ext _ _ _ fun y t _ => ?_
    rw [Nat.zero_add, round, roundF_eq, roundK_eq]
  rw [compress, hrounds]

/-! ### The hash -/

/-- Absorbing one more block. Unfolded by `delta` only: with `rw [absorb]` or a bare `rfl` the
kernel compares the two sides by evaluating `compress`, which is too deep. -/
theorem absorb_succ (n : Nat) (p : List Byte) (h : Chain) :
    absorb (n + 1) p h = absorb n (p.drop 64) (compress h (p.take 64)) := by
  delta absorb; rfl

/-- Absorbing n blocks is a fold over their numbers (R106). -/
theorem absorb_eq_foldl (n : Nat) (p : List Byte) (h : Chain) :
    absorb n p h = (List.range n).foldl (fun h i => compress h ((p.drop (64 * i)).take 64)) h := by
  induction n generalizing p h with
  | zero => rfl
  | succ n ih =>
    rw [absorb_succ, ih, List.range_succ_eq_map, List.foldl_cons, List.foldl_map]
    simp only [List.drop_drop, Nat.succ_eq_add_one, Nat.mul_add_one, Nat.add_comm 64]
    rfl

/-- The bytes of a word are those of its value, most significant first. -/
theorem wordBytes_eq_bytesBE (w : Word) : wordBytes w = bytesBE w.toNat 4 := by
  simp only [wordBytes, bytesBE, List.range_succ, List.range_zero, List.nil_append, List.cons_append,
    List.map_cons, List.map_nil, List.cons.injEq, and_true]
  refine ⟨?_, ?_, ?_, ?_⟩ <;> apply BitVec.eq_of_toNat_eq <;>
    simp only [BitVec.extractLsb'_toNat, BitVec.toNat_ofNat, Nat.shiftRight_eq_div_pow] <;> omega

/-- The hash of the empty message (R106). -/
theorem sha1_empty : sha1 [] = bytesBE 0xda39a3ee5e6b4b0d3255bfef95601890afd80709 20 := by decide +kernel

/-- The hash of the message "abc" (R106). -/
theorem sha1_abc : sha1 [0x61, 0x62, 0x63] = bytesBE 0xa9993e364706816aba3e25717850c26c9cd0d89d 20 := by decide +kernel

/-- Settles O37: absorbing the padded message is the fold over its blocks, and the two known values are evaluated. -/
theorem hashOverBlocks : Obligations.HashOverBlocks := by
  unfold Obligations.HashOverBlocks
  refine ⟨fun msg => ?_, sha1_empty, sha1_abc⟩
  intro h
  refine ⟨?_, sha1_length msg⟩
  have hchain : sha1Chain msg = h := absorb_eq_foldl _ _ _
  rw [sha1, hchain, Chain.bytes]
  simp only [wordBytes_eq_bytesBE]

end Sys2Proof.Machine
end

section
/-! PROOFS. HMAC-SHA1: the key block, the two hashed messages, and the digest in its registers (R108, R109, R117). -/

namespace Sys2Proof.Machine

/-! ### The key block -/

theorem hashedKey_of_le (key : List Byte) (h : key.length ≤ 64) : hashedKey key = key := if_neg (Nat.not_lt.2 h)

theorem hashedKey_of_lt (key : List Byte) (h : 64 < key.length) : hashedKey key = sha1 key := if_pos h

theorem hashedKey_length_le (key : List Byte) : (hashedKey key).length ≤ 64 := by
  obtain h | h := Nat.lt_or_ge 64 key.length
  · rw [hashedKey_of_lt key h, sha1_length]; decide
  · rwa [hashedKey_of_le key h]

@[simp] theorem keyBlock_length (key : List Byte) : (keyBlock key).length = 64 := by
  rw [keyBlock, List.length_append, List.length_replicate, Nat.add_sub_of_le (hashedKey_length_le key)]

/-- A key of at most a block is used as it is, with zero bytes behind it (R108). -/
theorem keyBlock_of_le (key : List Byte) (h : key.length ≤ 64) :
    keyBlock key = key ++ List.replicate (64 - key.length) 0 := by
  rw [keyBlock, hashedKey_of_le key h]

/-- A longer key is hashed first (R108). -/
theorem keyBlock_of_lt (key : List Byte) (h : 64 < key.length) : keyBlock key = sha1 key ++ List.replicate 44 0 := by
  rw [keyBlock, hashedKey_of_lt key h, sha1_length, Config.hashBlock]

/-- Zero bytes behind a short key are those the key block has there anyway (R108). -/
theorem keyBlock_append_zeros (key : List Byte) (n : Nat) (h : key.length + n ≤ 64) :
    keyBlock (key ++ List.replicate n 0) = keyBlock key := by
  have hlen : (key ++ List.replicate n (0 : Byte)).length = key.length + n := by simp
  have hzeros : n + (64 - (key.length + n)) = 64 - key.length := by omega
  rw [keyBlock_of_le _ (hlen ▸ h), keyBlock_of_le key (by omega), hlen, List.append_assoc,
    List.replicate_append_replicate, hzeros]

/-- HMAC uses a key through its key block only (R109). -/
theorem hmacSha1_congr_keyBlock (key key' msg : List Byte) (h : keyBlock key = keyBlock key') :
    hmacSha1 key msg = hmacSha1 key' msg := by
  rw [hmacSha1, hmacSha1, outerMessage, outerMessage, h]

/-- Settles O38: the key block by the length of the key; HMAC sees no more of the key than the block. -/
theorem keyBlockAndTrailingZeros : Obligations.KeyBlockAndTrailingZeros := by
  unfold Obligations.KeyBlockAndTrailingZeros
  refine ⟨keyBlock_length, keyBlock_of_le, keyBlock_of_lt, fun key n h => ?_⟩
  have hblock := keyBlock_append_zeros key n h
  exact ⟨hblock, fun msg => hmacSha1_congr_keyBlock _ _ msg hblock⟩

/-! ### The digest -/

/-- Settles O39: the outer hash is over the outer message, and the lengths are those of the key block and of a hash. -/
theorem hmacConstruction : Obligations.HmacConstruction := by
  unfold Obligations.HmacConstruction
  intro key msg k0 inner
  have hblock : k0.length = 64 := keyBlock_length key
  have hinner : inner.length = 20 := sha1_length _
  have houter : outerMessage key msg = k0.map (· ^^^ 0x5C) ++ inner := rfl
  refine ⟨by rw [hmacSha1, houter], hmacSha1_length key msg, ?_, fun hmsg => ?_⟩
  · rw [List.length_append, List.length_map, hblock, hinner]
  · rw [List.length_append, List.length_map, hblock, hmsg]

theorem digestWords_getElem (bs : List Byte) (j : Nat) (h : j < 5) : (digestWords bs)[j] = beWord bs (4 * j) := by
  interval_cases j <;> rfl

/-- The words packed from the bytes of a chaining value are its five words (R117). -/
theorem digestWords_bytes (h : Chain) : digestWords h.bytes = #v[h.a, h.b, h.c, h.d, h.e] := by
  refine Vector.ext fun j hj => ?_
  rw [digestWords_getElem _ j hj]
  exact beWord_packedBytes [h.a, h.b, h.c, h.d, h.e] j hj

/-- Settles O41: packing into words undoes the unpacking of the chaining words, and the other way about. -/
theorem digestRegistersHoldHash : Obligations.DigestRegistersHoldHash := by
  unfold Obligations.DigestRegistersHoldHash
  refine ⟨fun key msg => ?_, digestWords_getElem, digestBytes_of_digestWords⟩
  rw [hmacSha1]
  exact digestWords_bytes _

end Sys2Proof.Machine
end

section
/-! PROOFS. The HMAC unit: the key bytes and the message it reads from the registers, and the command from acceptance to
completion (R110, R111, R112, R114). -/

namespace Sys2Proof.Machine

/-! ### The message -/

theorem bytesBE_getD_toNat (v n i : Nat) (h : i < n) :
    ((bytesBE v n).getD i 0).toNat = v / 2 ^ (8 * (n - 1 - i)) % 256 := by
  simp [bytesBE, h]

/-- Settles O33: the eight bytes are those of the 64-bit moving factor, and half by half those of MF_HI and MF_LO. -/
theorem movingFactorBytes : Obligations.MovingFactorBytes := by
  unfold Obligations.MovingFactorBytes
  intro s
  have hbytes : mfBytes s = bytesBE (movingFactor s).toNat 8 := by rw [mfBytes_eq_bytesBE, movingFactor_toNat]
  refine ⟨mfBytes_length s, movingFactor_toNat s, hbytes, ?_, fun hone => ?_, fun i hi => ?_⟩
  · rw [mfBytes, wordBytes_eq_bytesBE, wordBytes_eq_bytesBE]
  · rw [hbytes, hone]; decide
  · rw [hbytes, bytesBE_getD_toNat _ _ _ hi]

/-! ### The key bytes in use -/

/-- The key is as long as KEYLEN says, up to the whole buffer (R110). -/
theorem keyBytes_length (s : State) (h : s.keyLen.toNat ≤ 128) : (keyBytes s).length = s.keyLen.toNat := by
  simp [keyBytes, h]

/-- Byte number i of the key in use, by its word and its bits there (R57, R110). -/
theorem keyBytes_getElem? (s : State) (i : Nat) (h : i < 128) (hi : i < s.keyLen.toNat) :
    (keyBytes s)[i]? = some ((s.key[i / 4]'(by omega)).extractLsb' (24 - 8 * (i % 4)) 8) := by
  have hword : s.key.toList[i / 4]? = some (s.key[i / 4]'(by omega)) := by
    simp [show i / 4 < 32 by omega]
  rw [keyBytes, List.getElem?_take_of_lt hi, packedBytes_getElem?, hword, Option.map_some]

/-- Two buffers that agree in the first KEYLEN bytes hold the same key (R110). -/
theorem keyBytes_replaceKey (s : State) (k : Vector Word 32)
    (h : ∀ i (h : i < 128), i < s.keyLen.toNat →
      (k[i / 4]'(by omega)).extractLsb' (24 - 8 * (i % 4)) 8
        = (s.key[i / 4]'(by omega)).extractLsb' (24 - 8 * (i % 4)) 8) :
    keyBytes { s with key := k } = keyBytes s := by
  refine List.ext_getElem? fun i => ?_
  by_cases hi : i < 128 ∧ i < s.keyLen.toNat
  · obtain ⟨hbuffer, hlen⟩ := hi
    rw [keyBytes_getElem? { s with key := k } i hbuffer hlen, keyBytes_getElem? s i hbuffer hlen, h i hbuffer hlen]
  · have hend (t : State) (ht : t.keyLen = s.keyLen) : (keyBytes t)[i]? = none :=
      List.getElem?_eq_none (by simp [keyBytes, ht]; omega)
    rw [hend { s with key := k } rfl, hend s rfl]

/-- HMAC reads KEY through the key bytes only. -/
theorem doHmac_replaceKey (s : State) (k : Vector Word 32) (h : keyBytes { s with key := k } = keyBytes s) :
    doHmac { s with key := k } = { doHmac s with key := k } := by
  rw [doHmac, h]
  rfl

/-- GEN reads KEY in its HMAC only. -/
theorem doGen_replaceKey (d : BitVec 4) (s : State) (k : Vector Word 32)
    (h : keyBytes { s with key := k } = keyBytes s) : doGen d { s with key := k } = { doGen d s with key := k } := by
  rw [doGen, doHmac_replaceKey s k h]
  rfl

/-- What a command other than ZERO computes depends on KEY through the key bytes only (R110). -/
theorem compute_replaceKey (s : State) (k : Vector Word 32) (h : keyBytes { s with key := k } = keyBytes s)
    (hop : s.curOp ≠ 5) : compute { s with key := k } = { compute s with key := k } := by
  simp only [compute]
  split
  case h_1 => exact doHmac_replaceKey s k h
  case h_4 => exact doGen_replaceKey s.curDigits s k h
  case h_5 hzero => exact absurd (BitVec.eq_of_toNat_eq hzero) hop
  all_goals rfl

/-- Settles O32: the key bytes one by one, and the completion step from two buffers that agree in them. -/
theorem keyBytesInUse : Obligations.KeyBytesInUse := by
  unfold Obligations.KeyBytesInUse
  refine ⟨fun s hmax => ⟨keyBytes_length s hmax, keyBytes_getElem? s⟩, fun s k h hop => ?_⟩
  obtain hbusy | hbusy := Bool.eq_false_or_eq_true s.busy
  · rw [complete_busy s hbusy, complete_busy { s with key := k } hbusy,
      compute_replaceKey s k (keyBytes_replaceKey s k h) hop]
    rfl
  · rw [complete_idle s hbusy, complete_idle { s with key := k } hbusy]

/-! ### The command -/

/-- An idle engine with a key of 1 to 128 bytes accepts HMAC (R87). -/
theorem exec_hmac_accepted (s : State) (hidle : s.busy = false) (hkey : s.keyLen ≠ 0)
    (hmax : s.keyLen.toNat ≤ 128) : exec .hmac s = .next (accept .hmac s) := by
  have hcheck : check .hmac s = none := checkKey_none s hkey hmax
  rw [exec_eq_issue, issue_accepted _ s hidle hcheck]

/-- The completion step of an accepted HMAC writes the digest of the operands as they stood at the CMD write (R114). -/
theorem complete_accept_hmac (s : State) :
    complete (accept .hmac s)
      = ((accept .hmac s).putDigest (digestWords (hmacSha1 (keyBytes s) (mfBytes s)))).finish := by
  rw [← keyBytes_accept .hmac s, ← mfBytes_accept .hmac s]
  rfl

/-- Settles O16: acceptance clears the results and latches the command, and the completion step writes the digest. -/
theorem hmacCompletes : Obligations.HmacCompletes := by
  unfold Obligations.HmacCompletes
  intro s hidle hkey hmax
  refine ⟨accept .hmac s, exec_hmac_accepted s hidle hkey hmax, ?_, rfl, ?_, ?_⟩
  · rw [accept_eq, clearResults_all _ s (.inl rfl)]
    rfl
  · rw [complete_accept_hmac]
    rfl
  · rw [complete_accept_hmac]
    rfl

end Sys2Proof.Machine
end

section
/-! PROOFS. The truncation unit: the masks of R130 and R131 as remainders, and the DT command from acceptance to
completion (R134, R135). -/

namespace Sys2Proof.Machine

/-! ### The masks -/

/-- A mask of the n lowest bits leaves the remainder by 2^n. -/
theorem and_lowMask_toNat {w : Nat} (x m : BitVec w) (n : Nat) (hm : m.toNat = 2 ^ n - 1) :
    (x &&& m).toNat = x.toNat % 2 ^ n := by
  rw [BitVec.toNat_and, hm, Nat.and_two_pow_sub_one_eq_mod]

/-- The offset is the remainder of the last byte by 16 (R130). -/
theorem offsetOf_toNat_eq_mod (digest : List Byte) : (offsetOf digest).toNat = (byteAt digest 19).toNat % 16 :=
  (offsetOf_toNat digest).trans (and_lowMask_toNat _ _ 4 rfl)

/-- The truncation is the masked word at the offset, with the offset as a number (R131). -/
theorem truncOf_toNat_eq_beWord (digest : List Byte) :
    (truncOf digest).toNat = (beWord digest ((byteAt digest 19).toNat % 16) &&& 0x7FFFFFFF).toNat := by
  rw [truncOf_toNat, ← offsetOf_toNat, offsetOf_toNat_eq_mod]

/-- Clearing the top bit of a big-endian word clears bit 7 of its first byte and nothing else (R131). -/
theorem beWord_signCleared_toNat (digest : List Byte) (o : Nat) :
    (beWord digest o &&& 0x7FFFFFFF).toNat
      = (byteAt digest o &&& 0x7F).toNat * 2 ^ 24 + (byteAt digest (o + 1)).toNat * 2 ^ 16
        + (byteAt digest (o + 2)).toNat * 2 ^ 8 + (byteAt digest (o + 3)).toNat := by
  have h1 := (byteAt digest (o + 1)).isLt
  have h2 := (byteAt digest (o + 2)).isLt
  have h3 := (byteAt digest (o + 3)).isLt
  rw [and_lowMask_toNat _ _ 31 rfl, and_lowMask_toNat _ _ 7 rfl, beWord, be32_toNat]
  omega

/-- Settles O42: the masks are remainders, and the masked word is the sum of its bytes without the sign bit. -/
theorem truncationIsMaskedBigEndian : Obligations.TruncationIsMaskedBigEndian := by
  unfold Obligations.TruncationIsMaskedBigEndian
  intro d _
  exact ⟨offsetOf_toNat_eq_mod d, truncOf_toNat_eq_beWord d,
    (truncOf_toNat_eq_beWord d).trans (beWord_signCleared_toNat d _)⟩

/-! ### The command -/

/-- An idle engine with a valid digest accepts DT, whatever KEYLEN is (R134). -/
theorem exec_dt_accepted (s : State) (hidle : s.busy = false) (hdv : s.dv = true) :
    exec .dt s = .next (accept .dt s) := by
  have hcheck : check .dt s = none := (checkValid_eq_none s.dv).2 hdv
  rw [exec_eq_issue, issue_accepted _ s hidle hcheck]

/-- The accepted state of DT: DIGEST and DV as they were, the two later results cleared (R90). -/
theorem accept_dt (s : State) :
    accept .dt s
      = { s with done := false, err := false, errCode := 0, offset := 0, trunc := 0, tv := false, bin := 0,
                 codeLen := 0, code := Vector.replicate 4 0, cv := false, curOp := 2, curDigits := 0, busy := true } := by
  rw [accept_eq, clearResults_dt]
  rfl

/-- The acceptance of DT keeps DIGEST, so its completion step truncates the digest as it stood at the CMD write (R90,
R135). -/
theorem complete_accept_dt (s : State) :
    complete (accept .dt s)
      = ((accept .dt s).putTrunc (offsetOf (digestBytes s)) (truncOf (digestBytes s))).finish := by
  rw [← digestBytes_congr s (accept .dt s) rfl]
  rfl

/-- Settles O17: acceptance keeps DIGEST and DV and clears the two later results, and the completion step writes the
truncation of the digest. -/
theorem dtCompletes : Obligations.DtCompletes := by
  unfold Obligations.DtCompletes
  intro s hidle hdv
  refine ⟨accept .dt s, exec_dt_accepted s hidle hdv, accept_dt s, ?_, ?_, ?_⟩
  · rw [accept_dt, hdv]
    rfl
  · rw [complete_accept_dt]
    rfl
  · rw [complete_accept_dt, accept_dt, hdv]
    rfl

end Sys2Proof.Machine
end

section
/-! PROOFS. The formatter: its characters as decimal digits, and the 16 bytes they make with the zero bytes behind them
(R143, R144). -/

namespace Sys2Proof.Machine

/-! ### The characters -/

theorem charsOf_getD (b d k : Nat) (h : k < d) : (charsOf b d).getD k 0 = charOf b d k := by
  simp [charsOf, h]

/-- A digit is at most 9, so its character fits the byte (R143). -/
theorem charOf_toNat (b d k : Nat) : (charOf b d k).toNat = 0x30 + b / 10 ^ (d - 1 - k) % 10 := by
  rw [charOf, BitVec.toNat_ofNat]
  omega

theorem charsOf_getD_toNat (b d k : Nat) (h : k < d) :
    ((charsOf b d).getD k 0).toNat = 0x30 + b / 10 ^ (d - 1 - k) % 10 := by
  rw [charsOf_getD b d k h, charOf_toNat]

/-- The d lowest decimal digits, each at its place, sum to the remainder by 10^d: one digit more on the left is the next
digit of the remainder. -/
theorem sum_digits_eq_mod (b d : Nat) :
    ((List.range d).map fun k => b / 10 ^ (d - 1 - k) % 10 * 10 ^ (d - 1 - k)).sum = b % 10 ^ d := by
  induction d with
  | zero => rw [pow_zero, Nat.mod_one]; rfl
  | succ d ih =>
    have hplace (k : Nat) : d + 1 - 1 - (k + 1) = d - 1 - k := by omega
    rw [List.range_succ_eq_map, List.map_cons, List.map_map, List.sum_cons]
    simp only [Function.comp_def, Nat.succ_eq_add_one, hplace, ih]
    rw [Nat.mod_pow_succ, Nat.add_sub_cancel, Nat.sub_zero, Nat.mul_comm, Nat.add_comm]

/-- The digits read back from the d characters of b sum to b reduced to d digits (R143). -/
theorem sum_charsOf_eq_mod (b d : Nat) :
    ((List.range d).map fun k => (((charsOf b d).getD k 0).toNat - 0x30) * 10 ^ (d - 1 - k)).sum = b % 10 ^ d := by
  rw [← sum_digits_eq_mod]
  refine congrArg List.sum (List.map_congr_left fun k hk => ?_)
  rw [charsOf_getD_toNat b d k (List.mem_range.1 hk), Nat.add_sub_cancel_left]

/-- The number 0 is written with `'0'` at every position (R143). -/
theorem charsOf_zero (d : Nat) : charsOf 0 d = List.replicate d 0x30 := by
  have hchar : charOf 0 d = fun _ => 0x30 := funext fun k => by rw [charOf, Nat.zero_div]; rfl
  rw [charsOf, hchar, List.map_const', List.length_range]

/-- Settles O46: each character is 0x30 and its digit, and the digits sum to the remainder, which is b when it is below
the modulus. -/
theorem charactersAreAllDigits : Obligations.CharactersAreAllDigits := by
  unfold Obligations.CharactersAreAllDigits
  refine ⟨fun b d => ⟨charsOf_length b d, fun k hk => ?_⟩, fun b d hb => ?_, charsOf_zero⟩
  · have hchar := charsOf_getD_toNat b d k hk
    exact ⟨hchar, by omega, by omega⟩
  · rw [sum_charsOf_eq_mod, Nat.mod_eq_of_lt hb]

/-! ### The CODE buffer -/

/-- Behind the characters there are only zero bytes (R144). -/
theorem byteAt_code16_of_le (b d i : Nat) (h : d ≤ i) : byteAt (code16 b d) i = 0 := by
  rw [byteAt, code16, List.getD_append_right _ _ _ _ (by rwa [charsOf_length]),
    List.getD_eq_getElem?_getD, List.getElem?_getD_replicate_default_eq]

/-- A word that begins behind the characters is zero (R144). -/
theorem beWord_code16_of_le (b d i : Nat) (h : d ≤ i) : beWord (code16 b d) i = 0 := by
  rw [beWord, byteAt_code16_of_le b d i h, byteAt_code16_of_le b d (i + 1) (by omega),
    byteAt_code16_of_le b d (i + 2) (by omega), byteAt_code16_of_le b d (i + 3) (by omega)]
  rfl

theorem codeWords_getElem (bs : List Byte) (j : Nat) (h : j < 4) : (codeWords bs)[j] = beWord bs (4 * j) := by
  interval_cases j <;> rfl

/-- The formatting at d characters leaves its 16 bytes in the CODE buffer (R144). -/
theorem codeBytes_doFmt (d : BitVec 4) (s : State) :
    codeBytes (doFmt d s) = code16 (s.trunc.toNat % 10 ^ d.toNat) d.toNat :=
  codeBytes_of_codeWords _ _ (code16_length _ _ (Nat.le_of_lt d.isLt)) rfl

/-- Settles O47: the buffer holds the 16 bytes of the formatting, which are zero from position d on. -/
theorem codeBufferHoldsCharacters : Obligations.CodeBufferHoldsCharacters := by
  unfold Obligations.CodeBufferHoldsCharacters
  intro s d _ t
  have hcode : t.code = codeWords (code16 (s.trunc.toNat % 10 ^ d.toNat) d.toNat) := rfl
  have hbytes : codeBytes t = code16 (s.trunc.toNat % 10 ^ d.toNat) d.toNat := codeBytes_doFmt d s
  refine ⟨hbytes, ?_, fun j hj hbehind => ?_, rfl, codeString_doFmt d s⟩
  · rw [hbytes]
    exact byteAt_code16_of_le _ _ 15 (Nat.le_of_lt_succ d.isLt)
  · simp only [hcode, codeWords_getElem _ j hj, beWord_code16_of_le _ _ _ hbehind]

/-! ### The command -/

/-- An idle engine with a truncated value accepts FMT for every d but 0 (R145). -/
theorem exec_fmt_accepted (s : State) (d : BitVec 4) (hidle : s.busy = false) (htv : s.tv = true) (hd : d ≠ 0) :
    exec (.fmt d) s = .next (accept (.fmt d) s) := by
  have hcheck : check (.fmt d) s = none := (check_eq_none (.fmt d) s).2 ⟨htv, hd⟩
  rw [exec_eq_issue, issue_accepted _ s hidle hcheck]

/-- The accepted state of FMT: DIGEST, OFFSET, TRUNC and their flags as they were, the formatting cleared (R90). -/
theorem accept_fmt (d : BitVec 4) (s : State) :
    accept (.fmt d) s
      = { s with done := false, err := false, errCode := 0, bin := 0, codeLen := 0, code := Vector.replicate 4 0,
                 cv := false, curOp := 3, curDigits := d, busy := true } := by
  rw [accept_eq, clearResults_fmt]
  rfl

/-- The completion step of an accepted FMT formats on the accepted state, which holds TRUNC as it stood at the CMD write
(R146). -/
theorem complete_accept_fmt (d : BitVec 4) (s : State) :
    complete (accept (.fmt d) s) = (doFmt d (accept (.fmt d) s)).finish := rfl

/-- Settles O18: acceptance keeps the truncation and clears the formatting, and the completion step writes the formatting
of TRUNC; the STATUS words are those of the flags DV and TV that were kept. -/
theorem fmtCompletes : Obligations.FmtCompletes := by
  unfold Obligations.FmtCompletes
  intro s d hidle htv hd
  refine ⟨accept (.fmt d) s, exec_fmt_accepted s d hidle htv hd, accept_fmt d s, ?_, fun hdv => ⟨?_, ?_⟩⟩
  · rw [complete_accept_fmt, accept_fmt]
    rfl
  · rw [accept_fmt, htv, hdv]
    rfl
  · rw [complete_accept_fmt, accept_fmt, htv, hdv]
    rfl

end Sys2Proof.Machine
end

section
/-! PROOFS. GEN and ZERO from acceptance to completion, as whole states (R160, R161, R163, R164). -/

namespace Sys2Proof.Machine

/-- The accepted state of a command that overwrites every result: the results cleared, the operands as they were (R90). -/
theorem accept_clearing_all (i : Instr) (s : State) (h : i = .hmac ∨ i = .zero ∨ ∃ d, i = .gen d) :
    accept i s
      = { s with done := false, err := false, errCode := 0, digest := Vector.replicate 5 0, dv := false, offset := 0,
                 trunc := 0, tv := false, bin := 0, codeLen := 0, code := Vector.replicate 4 0, cv := false,
                 curOp := i.opcode, curDigits := i.digitsField, busy := true } := by
  rw [accept_eq, clearResults_all i s h]

/-! ### GEN -/

/-- After an acceptance the HMAC unit hashes the operands as they stood at the CMD write (R90, R114). -/
theorem doHmac_accept (i : Instr) (s : State) :
    doHmac (accept i s) = (accept i s).putDigest (digestWords (hmacSha1 (keyBytes s) (mfBytes s))) := by
  rw [doHmac, keyBytes_accept, mfBytes_accept]

/-- The completion step of an accepted GEN: the digest of the operands as they stood at the CMD write goes through the
truncation and then the formatter (R161). -/
theorem complete_accept_gen_series (d : BitVec 4) (s : State) :
    complete (accept (.gen d) s)
      = (doFmt d (doDt ((accept (.gen d) s).putDigest (digestWords (hmacSha1 (keyBytes s) (mfBytes s)))))).finish := by
  rw [complete_accept_gen, doGen, doHmac_accept]

/-- Settles O19: acceptance clears every result and keeps the operands, and the completion step runs the three units in
series on them. -/
theorem genCompletes : Obligations.GenCompletes := by
  unfold Obligations.GenCompletes
  intro s d hidle hkey hmax hd
  have haccept := accept_clearing_all (.gen d) s (.inr (.inr ⟨d, rfl⟩))
  refine ⟨accept (.gen d) s, exec_gen_accepted s d hidle hkey hmax hd, haccept, rfl, ?_⟩
  rw [complete_accept_gen_series, haccept]
  exact ⟨rfl, rfl⟩

/-! ### ZERO -/

/-- An idle engine accepts ZERO, whatever KEYLEN and the flags are (R163). -/
theorem exec_zero_accepted (s : State) (hidle : s.busy = false) : exec .zero s = .next (accept .zero s) := by
  have hcheck : check .zero s = none := rfl
  rw [exec_eq_issue, issue_accepted _ s hidle hcheck]

/-- The results cleared at acceptance and the operands cleared at completion are together all that reset clears, and DONE
is all that tells the two apart (R164, R201). -/
theorem complete_accept_zero (s : State) : complete (accept .zero s) = { s.restart with done := true } := by
  rw [accept_clearing_all .zero s (.inr (.inl rfl))]
  rfl

/-- DONE is read in STATUS only (R53). -/
theorem regRead_replaceDone (a : BitVec 6) (h : a ≠ 0x02) (v : Bool) (s : State) :
    regRead a { s with done := v } = regRead a s := by
  unfold regRead
  split
  case h_1 hstatus => exact absurd (BitVec.eq_of_toNat_eq hstatus) h
  all_goals rfl

/-- The reset action leaves what a host reads after reset: the two fields it keeps are not the engine's (R201). -/
theorem regRead_restart (a : BitVec 6) (s : State) : regRead a s.restart = 0 := regRead_reset a

/-- Settles O20: acceptance clears the results, the completion step the operands, and DONE, which is read in STATUS only,
is all that is left. -/
theorem zeroCompletes : Obligations.ZeroCompletes := by
  unfold Obligations.ZeroCompletes
  intro s hidle
  refine ⟨accept .zero s, exec_zero_accepted s hidle, accept_clearing_all .zero s (.inr (.inl rfl)), rfl, ?_⟩
  rw [complete_accept_zero]
  exact ⟨rfl, rfl, fun a ha => by rw [regRead_replaceDone a ha, regRead_restart]⟩

end Sys2Proof.Machine
end

section
/-! PROOFS. Rejections: which check gives which error, what a rejected word leaves, and how long it stands (R181 to
R190). -/

namespace Sys2Proof.Machine

/-! ### The checks of R87, error by error -/

/-- The key checks give E_KEY_EMPTY or E_KEY_LEN, each for its own range of KEYLEN (R183, R184). -/
theorem checkKey_eq_some (s : State) (e : ErrCode) :
    checkKey s = some e ↔ e = .keyEmpty ∧ s.keyLen = 0 ∨ e = .keyLen ∧ 128 < s.keyLen.toNat := by
  by_cases hempty : s.keyLen = 0
  · simp [checkKey_empty s hempty, hempty, @eq_comm _ e]
  · by_cases hlong : 128 < s.keyLen.toNat
    · simp only [checkKey_long s hlong, Option.some.injEq, hempty, hlong, and_false, and_true, false_or, @eq_comm _ e]
    · simp only [checkKey_none s hempty (Nat.not_lt.1 hlong), hempty, hlong, reduceCtorEq, and_false, or_self]

theorem checkValid_eq_some (flag : Bool) (e : ErrCode) : checkValid flag = some e ↔ e = .seq ∧ flag = false := by
  cases flag <;> simp [checkValid, @eq_comm _ e]

theorem checkDigits_eq_some (d : BitVec 4) (e : ErrCode) : checkDigits d = some e ↔ e = .digits ∧ d = 0 := by
  rw [checkDigits, Option.ite_none_right_eq_some, Option.some.injEq, and_comm, @eq_comm _ e]

/-- The error each command reports: a later check counts only where the earlier ones pass (R87, R187). -/
theorem check_eq_some (i : Instr) (s : State) (e : ErrCode) :
    check i s = some e ↔
      match i with
      | .hmac => checkKey s = some e
      | .dt => checkValid s.dv = some e
      | .fmt d => checkValid s.tv = some e ∨ checkValid s.tv = none ∧ checkDigits d = some e
      | .gen d => checkKey s = some e ∨ checkKey s = none ∧ checkDigits d = some e
      | .zero => False := by
  cases i <;> simp only [check, Option.or_eq_some_iff, reduceCtorEq]

/-- A command that fails a check while idle is rejected with the error of the check (R88). -/
theorem exec_rejected (i : Instr) (s : State) (e : ErrCode) (hidle : s.busy = false) (hcheck : check i s = some e) :
    exec i s = .next (reject e s) := by
  rw [exec_eq_issue, issue_rejected i s e hidle hcheck]

/-- A key error rejects HMAC, and GEN whatever its DIGITS, since the key is checked first (R187). -/
theorem exec_keyError (s : State) (e : ErrCode) (hidle : s.busy = false) (hkey : checkKey s = some e) :
    exec .hmac s = .next (reject e s) ∧ ∀ d, exec (.gen d) s = .next (reject e s) :=
  ⟨exec_rejected .hmac s e hidle ((check_eq_some .hmac s e).2 hkey),
    fun d => exec_rejected (.gen d) s e hidle ((check_eq_some (.gen d) s e).2 (.inl hkey))⟩

/-- Settles O21: KEYLEN 0 and KEYLEN above 128 each fail the key check of HMAC and GEN with their own error. -/
theorem keyErrorsReject : Obligations.KeyErrorsReject := by
  unfold Obligations.KeyErrorsReject
  exact fun s hidle => ⟨fun hempty => exec_keyError s .keyEmpty hidle (checkKey_empty s hempty),
    fun hlong => exec_keyError s .keyLen hidle (checkKey_long s hlong)⟩

/-- Settles O22: the flag is the first check of DT and FMT, and no check of the other commands gives E_SEQ. -/
theorem sequenceErrorsReject : Obligations.SequenceErrorsReject := by
  unfold Obligations.SequenceErrorsReject
  refine ⟨fun s hidle hdv => ?_, fun s d hidle htv => ?_, fun s d => ⟨?_, ?_, ?_⟩⟩
  · have hseq : checkValid s.dv = some .seq := (checkValid_eq_some _ _).2 ⟨rfl, hdv⟩
    exact exec_rejected .dt s .seq hidle ((check_eq_some .dt s .seq).2 hseq)
  · have hseq : checkValid s.tv = some .seq := (checkValid_eq_some _ _).2 ⟨rfl, htv⟩
    exact exec_rejected (.fmt d) s .seq hidle ((check_eq_some (.fmt d) s .seq).2 (.inl hseq))
  · simp [check_eq_some, checkKey_eq_some]
  · simp [check_eq_some, checkKey_eq_some, checkDigits_eq_some]
  · simp [check_eq_some]

/-- Settles O23: DIGITS is the last check of FMT and GEN, reached where the earlier one passes, and the earlier ones give
other errors. -/
theorem digitsErrorRejects : Obligations.DigitsErrorRejects := by
  unfold Obligations.DigitsErrorRejects
  have hdigits : checkDigits 0 = some .digits := rfl
  refine ⟨fun s hidle htv => ?_, fun s hidle hkey hmax => ?_, fun s d hd => ⟨?_, ?_⟩⟩
  · have hvalid : checkValid s.tv = none := (checkValid_eq_none _).2 htv
    exact exec_rejected (.fmt 0) s .digits hidle ((check_eq_some (.fmt 0) s .digits).2 (.inr ⟨hvalid, hdigits⟩))
  · have hgood : checkKey s = none := checkKey_none s hkey hmax
    exact exec_rejected (.gen 0) s .digits hidle ((check_eq_some (.gen 0) s .digits).2 (.inr ⟨hgood, hdigits⟩))
  · simp only [Ne, check_eq_some, checkValid_eq_some, checkDigits_eq_some, hd, reduceCtorEq, false_and, and_false, or_self,
      not_false_eq_true]
  · simp only [Ne, check_eq_some, checkKey_eq_some, checkDigits_eq_some, hd, reduceCtorEq, false_and, and_false, or_self,
      not_false_eq_true]

/-! ### The outcome of a word written to CMD while idle -/

/-- The word is rejected with e: it is illegal, or a command that fails a check with e (R182, R187). -/
def rejectedWith (w : Word) (s : State) (e : ErrCode) : Prop :=
  (∃ why, decode w = .illegal why) ∧ e = .illegalCmd ∨ ∃ i, decode w = .legal i ∧ check i s = some e

/-- Every word is accepted or rejected with some error. -/
theorem accepted_or_rejectedWith (w : Word) (s : State) :
    (∃ i, decode w = .legal i ∧ check i s = none) ∨ ∃ e, rejectedWith w s e := by
  cases hw : decode w with
  | illegal why => exact .inr ⟨_, .inl ⟨⟨why, hw⟩, rfl⟩⟩
  | legal i =>
    cases hcheck : check i s with
    | none => exact .inl ⟨i, rfl, hcheck⟩
    | some e => exact .inr ⟨e, .inr ⟨i, hw, hcheck⟩⟩

theorem regWrite_cmd_rejected (w : Word) (s : State) (e : ErrCode) (hidle : s.busy = false) (h : rejectedWith w s e) :
    regWrite cmdIndex w s = .next (reject e s) := by
  obtain ⟨⟨why, hw⟩, rfl⟩ | ⟨i, hw, hcheck⟩ := h
  · exact regWrite_cmd_illegal w s why hw hidle
  · rw [regWrite_cmd_legal w s i hw, exec_rejected i s e hidle hcheck]

theorem regWrite_cmd_accepted (w : Word) (s : State) (i : Instr) (hidle : s.busy = false) (hw : decode w = .legal i)
    (hcheck : check i s = none) : regWrite cmdIndex w s = .next (accept i s) := by
  rw [regWrite_cmd_legal w s i hw, exec_eq_issue, issue_accepted i s hidle hcheck]

/-- What acceptance writes in STATUS beside the validity flags (R88). -/
theorem accept_outcome (i : Instr) (s : State) :
    (accept i s).done = false ∧ (accept i s).err = false ∧ (accept i s).errCode = 0 ∧ (accept i s).busy = true := by
  rw [accept_eq]
  exact ⟨rfl, rfl, rfl, rfl⟩

/-- DONE, ERR and ERRCODE are read in STATUS only, so a rejection shows nowhere else (R53, R189). -/
theorem regRead_reject (a : BitVec 6) (h : a ≠ 0x02) (e : ErrCode) (s : State) :
    regRead a (reject e s) = regRead a s := by
  unfold regRead
  split
  case h_1 hstatus => exact absurd (BitVec.eq_of_toNat_eq hstatus) h
  all_goals rfl

/-- Settles O25: a rejection is one update of DONE, ERR and ERRCODE, which only STATUS shows. -/
theorem rejectionIsPrecise : Obligations.RejectionIsPrecise := by
  unfold Obligations.RejectionIsPrecise
  intro w s e hidle h
  refine ⟨reject e s, regWrite_cmd_rejected w s e hidle h, ?_⟩
  rw [reject_eq]
  exact ⟨rfl, rfl, rfl, hidle, rfl, rfl, rfl, rfl, rfl, rfl, rfl, rfl, rfl, rfl, rfl, rfl, rfl, rfl, rfl, rfl, rfl,
    fun a ha => regRead_reject a ha e s⟩

/-! ### Several causes -/

/-- Some check of the command fails with e when it is made by itself, whatever the others give (R181). -/
def failsSomeCheck (i : Instr) (s : State) (e : ErrCode) : Prop :=
  match i with
  | .hmac => checkKey s = some e
  | .dt => checkValid s.dv = some e
  | .fmt d => checkValid s.tv = some e ∨ checkDigits d = some e
  | .gen d => checkKey s = some e ∨ checkDigits d = some e
  | .zero => False

theorem causeApplies_legal (w : Word) (s : State) (i : Instr) (hw : decode w = .legal i) (e : ErrCode) :
    causeApplies w s e ↔ failsSomeCheck i s e := by
  cases i <;> cases e <;>
    simp [causeApplies, failsSomeCheck, hw, checkKey_eq_some, checkValid_eq_some, checkDigits_eq_some]

/-- The error of an illegal word is its only cause, for every other cause is a command's (R182). -/
theorem causeApplies_illegal (w : Word) (s : State) (why : Illegal) (hw : decode w = .illegal why) (e : ErrCode) :
    causeApplies w s e ↔ e = .illegalCmd := by
  cases e <;> simp [causeApplies, hw]

theorem failsSomeCheck_of_check (i : Instr) (s : State) (e : ErrCode) (h : check i s = some e) :
    failsSomeCheck i s e := by
  rw [check_eq_some] at h
  cases i with
  | hmac | dt | zero => exact h
  | fmt d | gen d => exact h.imp_right And.right

theorem not_failsSomeCheck_of_check (i : Instr) (s : State) (h : check i s = none) (e : ErrCode) :
    ¬failsSomeCheck i s e := by
  cases i with
  | hmac | dt => exact fun h' => absurd (h.symm.trans h') (by simp)
  | fmt d | gen d =>
    obtain ⟨hfirst, hdigits⟩ := Option.or_eq_none_iff.1 h
    simp [failsSomeCheck, hfirst, hdigits]
  | zero => exact id

theorem ErrCode.code_injective (e e' : ErrCode) (h : e.code.toNat = e'.code.toNat) : e = e' := by
  revert h
  cases e <;> cases e' <;> decide

/-- E_DIGITS has the highest code. -/
theorem ErrCode.code_le_digits (e : ErrCode) : e.code.toNat ≤ ErrCode.digits.code.toNat := by
  cases e <;> decide

/-- A check made before that of DIGITS reports a code at most as high as any that fails (R187). -/
theorem code_le_of_or_checkDigits (earlier : Option ErrCode) (d : BitVec 4) (e e' : ErrCode)
    (h : earlier.or (checkDigits d) = some e) (h' : earlier = some e' ∨ checkDigits d = some e') :
    e.code.toNat ≤ e'.code.toNat := by
  obtain rfl | hdigits := h'
  · obtain rfl : e' = e := Option.some.inj h
    exact Nat.le_refl _
  · obtain ⟨rfl, -⟩ := (checkDigits_eq_some d e').1 hdigits
    exact e.code_le_digits

/-- `Check` reports the lowest code of the checks that fail (R187). -/
theorem code_le_of_failsSomeCheck (i : Instr) (s : State) (e e' : ErrCode) (h : check i s = some e)
    (h' : failsSomeCheck i s e') : e.code.toNat ≤ e'.code.toNat := by
  cases i with
  | hmac | dt =>
    obtain rfl : e = e' := Option.some.inj (h.symm.trans h')
    exact Nat.le_refl _
  | fmt d => exact code_le_of_or_checkDigits _ d e e' h h'
  | gen d => exact code_le_of_or_checkDigits _ d e e' h h'
  | zero => exact h'.elim

/-- A word is rejected with a cause that applies and has the lowest code of those that do (R187). -/
theorem rejectedWith_least (w : Word) (s : State) (e : ErrCode) (h : rejectedWith w s e) :
    causeApplies w s e ∧ ∀ e', causeApplies w s e' → e.code.toNat ≤ e'.code.toNat := by
  obtain ⟨⟨why, hw⟩, rfl⟩ | ⟨i, hw, hcheck⟩ := h
  · simp [causeApplies_illegal w s why hw]
  · simp only [causeApplies_legal w s i hw]
    exact ⟨failsSomeCheck_of_check i s e hcheck, fun e' => code_le_of_failsSomeCheck i s e e' hcheck⟩

/-- Settles O24: an accepted word has no cause, and a rejected one is rejected with the cause of the lowest code, which is
unique because the codes differ. -/
theorem lowestErrorCodeWins : Obligations.LowestErrorCodeWins := by
  unfold Obligations.LowestErrorCodeWins
  intro s w hidle
  obtain ⟨i, hw, hcheck⟩ | ⟨e, hrejected⟩ := accepted_or_rejectedWith w s
  · obtain ⟨-, herr, hcode, hbusy⟩ := accept_outcome i s
    refine ⟨accept i s, regWrite_cmd_accepted w s i hidle hw hcheck, fun e hcause => ?_, fun _ => ⟨herr, hcode, hbusy⟩⟩
    exact absurd ((causeApplies_legal w s i hw e).1 hcause) (not_failsSomeCheck_of_check i s hcheck e)
  · obtain ⟨hcause, hleast⟩ := rejectedWith_least w s e hrejected
    refine ⟨reject e s, regWrite_cmd_rejected w s e hidle hrejected, fun e' hcause' hleast' => ?_,
      fun hnone => absurd hcause (hnone e)⟩
    obtain rfl : e' = e := e'.code_injective e (Nat.le_antisymm (hleast' e hcause) (hleast e' hcause'))
    exact ⟨rfl, rfl, hidle⟩

/-! ### How long ERR and ERRCODE stand -/

theorem compute_error (s : State) : (compute s).err = s.err ∧ (compute s).errCode = s.errCode := by
  unfold compute
  split <;> exact ⟨rfl, rfl⟩

/-- The ENGINE's turn leaves ERR and ERRCODE (R89). -/
theorem complete_error (s : State) : (complete s).err = s.err ∧ (complete s).errCode = s.errCode := by
  cases hb : s.busy with
  | true => rw [complete_busy s hb]; exact compute_error s
  | false => rw [complete_idle s hb]; exact ⟨rfl, rfl⟩

theorem storeOperand_error (a : BitVec 6) (v : Word) (s : State) :
    (storeOperand a v s).err = s.err ∧ (storeOperand a v s).errCode = s.errCode := by
  obtain ⟨-, h⟩ | ⟨-, h⟩ | ⟨-, h⟩ | ⟨-, h⟩ | h := storeOperand_cases a v s <;> rw [h] <;> exact ⟨rfl, rfl⟩

/-- A port write that is no CMD write made while idle leaves ERR and ERRCODE (R190). -/
theorem regWrite_error (a : BitVec 6) (v : Word) (s t : State) (ht : regWrite a v s = .next t)
    (h : ¬(s.busy = false ∧ a = cmdIndex)) : t.err = s.err ∧ t.errCode = s.errCode := by
  cases hb : s.busy with
  | true =>
    rw [regWrite_busy a v s hb] at ht
    obtain rfl := Host.Outcome.next.inj ht
    exact ⟨rfl, rfl⟩
  | false =>
    rw [regWrite_idle a v s (fun ha => h ⟨hb, ha⟩) hb] at ht
    obtain rfl := Host.Outcome.next.inj ht
    exact storeOperand_error a v s

/-- Settles O26: no other action touches ERR and ERRCODE, a CMD write made while idle ends in an acceptance or a
rejection, whose outcome is its own, and reset clears both. -/
theorem errorStandsUntilNextCommand : Obligations.ErrorStandsUntilNextCommand := by
  unfold Obligations.ErrorStandsUntilNextCommand
  refine ⟨fun x s t ht hother hreset => ?_, fun s t w ht hidle => ?_, fun s t ht => ?_⟩
  · match x with
    | .engine =>
      obtain rfl := Host.Outcome.next.inj ht
      exact complete_error s
    | .reset => exact absurd rfl hreset
    | .host (.regRead a) =>
      obtain rfl := Host.Outcome.next.inj ht
      exact ⟨rfl, rfl⟩
    | .host (.regWrite a v) =>
      exact regWrite_error a v s t ht fun ⟨hidle, ha⟩ => hother ⟨hidle, v, by rw [ha]⟩
  · have ht' : regWrite cmdIndex w s = .next t := ht
    have haccepted (i : Instr) (hw : decode w = .legal i) (hcheck : check i s = none) : t = accept i s :=
      Host.Outcome.next.inj (ht'.symm.trans (regWrite_cmd_accepted w s i hidle hw hcheck))
    have hrejected (e : ErrCode) (h : rejectedWith w s e) : t = reject e s :=
      Host.Outcome.next.inj (ht'.symm.trans (regWrite_cmd_rejected w s e hidle h))
    refine ⟨?_, fun ⟨i, hw, hcheck⟩ => ?_, fun e h => ?_⟩
    · obtain ⟨i, hw, hcheck⟩ | ⟨e, h⟩ := accepted_or_rejectedWith w s
      · rw [haccepted i hw hcheck]
        exact (accept_outcome i s).1
      · rw [hrejected e h]
        rfl
    · rw [haccepted i hw hcheck]
      exact (accept_outcome i s).2
    · rw [hrejected e h]
      exact ⟨rfl, rfl, hidle⟩
  · obtain rfl := Host.Outcome.next.inj ht
    exact ⟨rfl, rfl⟩

end Sys2Proof.Machine
end

section
/-! PROOFS. Reset and busy: what the reset action leaves, and what ends a command in progress (R201, R202). -/

namespace Sys2Proof.Machine

/-- The engine's part of the state after the reset action is that of the reset state (R201). -/
theorem restart_engineOnly (s : State) : s.restart.engineOnly = State.reset := rfl

/-- No transaction at the port ends a command in progress: a read changes nothing in the engine, and a write is lost
while busy (R55, R59). -/
theorem transact_keeps_busy (x : Transaction) (s t : State) (hbusy : s.busy = true) (ht : transact x s = .next t) :
    t.busy = true := by
  cases x with
  | regRead a =>
    obtain rfl := Host.Outcome.next.inj ht
    exact (State.reply_busy s _).trans hbusy
  | regWrite a v =>
    obtain rfl := Host.Outcome.next.inj ((regWrite_busy a v s hbusy).symm.trans ht)
    exact hbusy

/-- Settles O53: the reset action leaves an idle engine, for which no completion step is enabled, and of the other actions
those of the host keep a busy engine busy. -/
theorem resetAbandonsCommand : Obligations.ResetAbandonsCommand := by
  unfold Obligations.ResetAbandonsCommand
  refine ⟨fun s => ?_, fun x s t hbusy ht hended => ?_⟩
  · have hidle : s.restart.busy = false := State.restart_busy s
    exact ⟨s.restart, rfl, restart_engineOnly s, hidle, complete_idle s.restart hidle, fun a => regRead_restart a s⟩
  · cases x with
    | engine => exact .inl rfl
    | reset => exact .inr rfl
    | host x =>
      have hstill : t.busy = true := transact_keeps_busy x s t hbusy ht
      rw [hended] at hstill
      contradiction

end Sys2Proof.Machine
end

section
/-! PROOFS. What is read back from what was encoded: a command from its word and a transaction from its pattern (R51, R83,
R86). -/

namespace Sys2Proof.Machine

/-- The word of a command as a number: OP + 256*DIGITS, which fits the word (R81, R86). -/
theorem encode_toNat (i : Instr) : (encode i).toNat = i.opcode.toNat + 256 * i.digitsField.toNat := by
  have hop := i.opcode.isLt
  have hdigits := i.digitsField.isLt
  rw [encode, formatC_eq_ofNat, BitVec.toNat_ofNat]
  omega

/-- Settles O1: a word decodes to a command exactly when it is the command's word, which gives both directions. -/
theorem decodeEncodeRoundTrip : Obligations.DecodeEncodeRoundTrip := by
  unfold Obligations.DecodeEncodeRoundTrip
  exact ⟨fun i => (decode_eq_legal_iff _ i).2 rfl, fun w i h => ((decode_eq_legal_iff w i).1 h).symm,
    encode_hmac, encode_dt, encode_zero, fun d => ⟨encode_toNat (.fmt d), encode_toNat (.gen d)⟩⟩

/-- Settles O4: the decoder evaluated on the nine words. -/
theorem sampleWordsDecode : Obligations.SampleWordsDecode := by
  unfold Obligations.SampleWordsDecode
  decide

/-- The three fields of a transaction's pattern are those it was made of (R51). -/
theorem transactionPattern_fields (we : BitVec 1) (a : BitVec 6) (v : Word) :
    (we ++ a ++ v).extractLsb' 38 1 = we ∧ (we ++ a ++ v).extractLsb' 32 6 = a
      ∧ (we ++ a ++ v).extractLsb' 0 32 = v := by
  refine ⟨?_, ?_, BitVec.extractLsb'_append_eq_right⟩
  · rw [BitVec.extractLsb'_append_eq_of_le (by decide)]
    exact BitVec.extractLsb'_append_eq_left
  · rw [BitVec.extractLsb'_append_eq_of_le (by decide)]
    exact BitVec.extractLsb'_append_eq_right

theorem decodeTransaction_write (a : BitVec 6) (v : Word) : decodeTransaction (1#1 ++ a ++ v) = .regWrite a v := by
  obtain ⟨hwe, ha, hv⟩ := transactionPattern_fields 1#1 a v
  rw [decodeTransaction, if_pos hwe, ha, hv]

/-- The value of a read's pattern is ignored (R51). -/
theorem decodeTransaction_read (a : BitVec 6) (v : Word) : decodeTransaction (0#1 ++ a ++ v) = .regRead a := by
  obtain ⟨hwe, ha, -⟩ := transactionPattern_fields 0#1 a v
  rw [decodeTransaction, if_neg (by rw [hwe]; decide), ha]

/-- Settles O5: a pattern is read back field by field. -/
theorem transactionPattern : Obligations.TransactionPattern := by
  unfold Obligations.TransactionPattern
  refine ⟨fun t => ?_, fun a v => rfl, decodeTransaction_read⟩
  cases t with
  | regRead a => exact decodeTransaction_read a 0
  | regWrite a v => exact decodeTransaction_write a v

end Sys2Proof.Machine
end

section
/-! PROOFS. One step by the action that is next (R20, R61, R62, R88, R224). -/

namespace Sys2Proof.Machine

theorem step_of_no_action (s : State) (h : s.pending = []) : step s = .next (complete s) := by
  simp [step, takeTurn, h]

/-- The next action is performed on the state less the action. -/
theorem step_of_action (s : State) (x : Action) (rest : List Action) (h : s.pending = x :: rest) :
    step s = perform x (s.withPending rest) := by
  simp [step, takeTurn, h]

/-- A read changes what the host has read and nothing else, and no read shows that (R53, R59). -/
theorem regRead_reply (a : BitVec 6) (v : Word) (s : State) : regRead a (s.reply v) = regRead a s := by
  unfold regRead
  split <;> rfl

/-- Settles O7: the action is the write, and a write to CMD of a word that decodes to a command is `exec` of it. -/
theorem stepRunsDecodedCommand : Obligations.StepRunsDecodedCommand := by
  unfold Obligations.StepRunsDecodedCommand
  intro s w i rest hpending hw
  rw [step_of_action s _ rest hpending]
  exact regWrite_cmd_legal w (s.withPending rest) i hw

/-- Settles O8: each action is performed on the state less the action. -/
theorem stepOfOtherActions : Obligations.StepOfOtherActions := by
  unfold Obligations.StepOfOtherActions
  exact ⟨fun s a rest h => step_of_action s _ rest h, fun s a v rest h => step_of_action s _ rest h,
    fun s rest h => step_of_action s _ rest h, fun s rest h => step_of_action s _ rest h, step_of_no_action⟩

/-- Settles O9: every case of a step answers a next state. -/
theorem stepAlwaysAnswersNext : Obligations.StepAlwaysAnswersNext := by
  unfold Obligations.StepAlwaysAnswersNext
  intro s
  obtain ⟨-, h⟩ | ⟨_, _, -, ⟨-, h⟩ | ⟨_, -, h⟩ | ⟨_, -, h⟩ | ⟨_, _, -, -, h⟩ | ⟨_, _, -, -, -, h⟩ | ⟨-, h⟩⟩ :=
    step_cases s <;> exact ⟨_, h⟩

/-- Settles O12: the reply is recorded, and no index shows the record. -/
theorem readsChangeNothing : Obligations.ReadsChangeNothing := by
  unfold Obligations.ReadsChangeNothing
  exact fun s a => ⟨s.reply (regRead a s), rfl, rfl, rfl, rfl, fun b => regRead_reply b _ s⟩

end Sys2Proof.Machine
end

section
/-! PROOFS. The STATUS word bit by bit (R31). -/

namespace Sys2Proof.Machine

/-- A bit of a word read off the word's value. -/
theorem getLsbD_of_div_mod (w : Word) (i : Nat) (flag : Bool) (h : w.toNat / 2 ^ i % 2 = flag.toNat) :
    w.getLsbD i = flag := by
  rw [BitVec.getLsbD, Nat.testBit_eq_decide_div_mod_eq, h]
  cases flag <;> rfl

/-- Settles O11: each flag stands at its own place in the sum of R31, the fields below it sum to less, and ERRCODE is the
quotient by 256. -/
theorem statusWordBits : Obligations.StatusWordBits := by
  unfold Obligations.StatusWordBits
  intro s
  have hsum := statusWord_toNat s
  have hbusy := s.busy.toNat_le; have hdone := s.done.toNat_le; have herr := s.err.toNat_le
  have hdv := s.dv.toNat_le; have htv := s.tv.toNat_le; have hcv := s.cv.toNat_le
  have hcode := s.errCode.isLt
  obtain ⟨hbit3, hbit7, hhigh⟩ := statusWord_reserved s
  have hbit := getLsbD_of_div_mod (statusWord s)
  refine ⟨hbit 0 _ ?_, hbit 1 _ ?_, hbit 2 _ ?_, hbit3, hbit 4 _ ?_, hbit 5 _ ?_, hbit 6 _ ?_, hbit7,
    BitVec.eq_of_toNat_eq ?_, hhigh⟩
  · omega
  · omega
  · omega
  · omega
  · omega
  · omega
  · rw [BitVec.extractLsb'_toNat, Nat.shiftRight_eq_div_pow]
    omega

end Sys2Proof.Machine
end

section
/-! PROOFS. What the completion step runs, by CUR_OP (R89). -/

namespace Sys2Proof.Machine

theorem compute_hmac (s : State) (h : s.curOp = 1) : compute s = doHmac s := by simp [compute, h]
theorem compute_dt (s : State) (h : s.curOp = 2) : compute s = doDt s := by simp [compute, h]
theorem compute_fmt (s : State) (h : s.curOp = 3) : compute s = doFmt s.curDigits s := by simp [compute, h]
theorem compute_gen (s : State) (h : s.curOp = 4) : compute s = doGen s.curDigits s := by simp [compute, h]
theorem compute_zero (s : State) (h : s.curOp = 5) : compute s = doZero s := by simp [compute, h]

end Sys2Proof.Machine
end

section
/-! PROOFS. The three parts of the engine's state that R40 tells apart, what each update keeps of them, and which of them
each index shows (R40, R53). -/

namespace Sys2Proof.Machine

/-- The operands: what the host writes (R40). -/
def State.operands (s : State) : Vector Word 32 × BitVec 8 × Word × Word := (s.key, s.keyLen, s.mfHi, s.mfLo)

/-- The results with their flags: what the commands write (R40). -/
def State.results (s : State) :
    Vector Word 5 × BitVec 4 × BitVec 31 × BitVec 31 × BitVec 4 × Vector Word 4 × Bool × Bool × Bool :=
  (s.digest, s.offset, s.trunc, s.bin, s.codeLen, s.code, s.dv, s.tv, s.cv)

/-- The command in progress and the outcome of the last one (R40). -/
def State.control (s : State) : Bool × Bool × Bool × BitVec 4 × BitVec 4 × BitVec 4 :=
  (s.busy, s.done, s.err, s.errCode, s.curOp, s.curDigits)

theorem operands_eq_iff (s t : State) :
    t.operands = s.operands ↔ t.key = s.key ∧ t.keyLen = s.keyLen ∧ t.mfHi = s.mfHi ∧ t.mfLo = s.mfLo := by
  simp only [State.operands, Prod.mk.injEq]

theorem results_eq_iff (s t : State) :
    t.results = s.results ↔ t.digest = s.digest ∧ t.offset = s.offset ∧ t.trunc = s.trunc ∧ t.bin = s.bin
      ∧ t.codeLen = s.codeLen ∧ t.code = s.code ∧ t.dv = s.dv ∧ t.tv = s.tv ∧ t.cv = s.cv := by
  simp only [State.results, Prod.mk.injEq]

theorem control_eq_iff (s t : State) :
    t.control = s.control ↔ t.busy = s.busy ∧ t.done = s.done ∧ t.err = s.err ∧ t.errCode = s.errCode
      ∧ t.curOp = s.curOp ∧ t.curDigits = s.curDigits := by
  simp only [State.control, Prod.mk.injEq]

/-! ### What the updates keep -/

theorem storeOperand_results (a : BitVec 6) (v : Word) (s : State) : (storeOperand a v s).results = s.results := by
  obtain ⟨-, h⟩ | ⟨-, h⟩ | ⟨-, h⟩ | ⟨-, h⟩ | h := storeOperand_cases a v s <;> rw [h] <;> rfl

theorem storeOperand_control (a : BitVec 6) (v : Word) (s : State) : (storeOperand a v s).control = s.control := by
  obtain ⟨-, h⟩ | ⟨-, h⟩ | ⟨-, h⟩ | ⟨-, h⟩ | h := storeOperand_cases a v s <;> rw [h] <;> rfl

/-- A store outside the operand registers does nothing (R56). -/
theorem storeOperand_of_not_operandIndex (a : BitVec 6) (v : Word) (s : State) (h : ¬operandIndex a) :
    storeOperand a v s = s := by
  unfold operandIndex at h
  obtain ⟨ha, -⟩ | ⟨ha, -⟩ | ⟨ha, -⟩ | ⟨ha, -⟩ | heq := storeOperand_cases a v s
  · exact absurd (.inl ha) h
  · exact absurd (.inr (.inl ha)) h
  · exact absurd (.inr (.inr (.inl ha))) h
  · exact absurd (.inr (.inr (.inr ha))) h
  · exact heq

theorem accept_operands (i : Instr) (s : State) : (accept i s).operands = s.operands := by
  cases i <;> rfl

theorem reject_operands (e : ErrCode) (s : State) : (reject e s).operands = s.operands := rfl

theorem reject_results (e : ErrCode) (s : State) : (reject e s).results = s.results := rfl

/-- Only ZERO computes anything on the operands (R164). -/
theorem compute_operands (s : State) (h : s.curOp ≠ 5) : (compute s).operands = s.operands := by
  unfold compute
  split
  case h_5 hzero => exact absurd (BitVec.eq_of_toNat_eq hzero) h
  all_goals rfl

theorem complete_operands (s : State) (h : ¬(s.busy = true ∧ s.curOp = 5)) : (complete s).operands = s.operands := by
  cases hbusy : s.busy with
  | true => rw [complete_busy s hbusy]; exact compute_operands s fun hop => h ⟨hbusy, hop⟩
  | false => rw [complete_idle s hbusy]

/-- Everything a write to CMD can do: nothing while busy, otherwise a rejection or the acceptance of a command that passes
its checks (R88). -/
theorem afterCmdWrite_cases (w : Word) (s : State) :
    (s.busy = true ∧ afterCmdWrite w s = s)
      ∨ (∃ e, s.busy = false ∧ rejectedWith w s e ∧ afterCmdWrite w s = reject e s)
      ∨ ∃ i, s.busy = false ∧ decode w = .legal i ∧ check i s = none ∧ afterCmdWrite w s = accept i s := by
  have hwrite : regWrite cmdIndex w s = .next (afterCmdWrite w s) := cmdWrite_eq w s
  cases hbusy : s.busy with
  | true => exact .inl ⟨rfl, afterCmdWrite_busy w s hbusy⟩
  | false =>
    obtain ⟨i, hw, hcheck⟩ | ⟨e, he⟩ := accepted_or_rejectedWith w s
    · rw [regWrite_cmd_accepted w s i hbusy hw hcheck] at hwrite
      exact .inr (.inr ⟨i, rfl, hw, hcheck, (Host.Outcome.next.inj hwrite).symm⟩)
    · rw [regWrite_cmd_rejected w s e hbusy he] at hwrite
      exact .inr (.inl ⟨e, rfl, he, (Host.Outcome.next.inj hwrite).symm⟩)

theorem afterCmdWrite_operands (w : Word) (s : State) : (afterCmdWrite w s).operands = s.operands := by
  obtain ⟨-, h⟩ | ⟨e, -, -, h⟩ | ⟨i, -, -, -, h⟩ := afterCmdWrite_cases w s <;> rw [h]
  · exact reject_operands e s
  · exact accept_operands i s

/-! ### What the indices show -/

/-- Two states read the same at an index when they agree in the register that stands there (R53). -/
theorem regRead_congr (a : BitVec 6) (s t : State)
    (hstatus : a = 0x02 → statusWord t = statusWord s)
    (hkeyLen : a = 0x03 → t.keyLen = s.keyLen)
    (hmf : a = 0x04 ∨ a = 0x05 → t.mfHi = s.mfHi ∧ t.mfLo = s.mfLo)
    (htrunc : a = 0x06 ∨ a = 0x07 → t.offset = s.offset ∧ t.trunc = s.trunc)
    (hcode : 0x08 ≤ a.toNat → a.toNat ≤ 0x0F → t.bin = s.bin ∧ t.codeLen = s.codeLen ∧ t.code = s.code)
    (hdigest : 0x10 ≤ a.toNat → a.toNat ≤ 0x14 → t.digest = s.digest) : regRead a t = regRead a s := by
  have hindex (n : BitVec 6) (h : a.toNat = n.toNat) : a = n := BitVec.eq_of_toNat_eq h
  unfold regRead
  split
  case h_1 h => exact hstatus (hindex 0x02 h)
  case h_2 h => rw [hkeyLen (hindex 0x03 h)]
  case h_3 h => exact (hmf (.inl (hindex 0x04 h))).1
  case h_4 h => exact (hmf (.inr (hindex 0x05 h))).2
  case h_5 h => rw [(htrunc (.inl (hindex 0x06 h))).1]
  case h_6 h => rw [(htrunc (.inr (hindex 0x07 h))).2]
  case h_18 => rfl
  case h_7 | h_8 | h_9 | h_10 | h_11 | h_12 =>
    obtain ⟨hbin, hlen, hbuffer⟩ := hcode (by omega) (by omega)
    simp only [hbin, hlen, hbuffer]
  all_goals rw [hdigest (by omega) (by omega)]

end Sys2Proof.Machine
end

section
/-! PROOFS. Frames: what a command's CMD write, its completion step and a store outside CMD leave as they were (R40, R90,
R114, R135, R146, R161, R164, R214). -/

namespace Sys2Proof.Machine

theorem exec_eq_next_iff (i : Instr) (s t : State) : exec i s = .next t ↔ issue i s = t := by
  rw [exec_eq_issue, Host.Outcome.next.injEq]

/-! ### The CMD write -/

/-- No command's CMD write touches the operands (R90). -/
theorem issue_operands (i : Instr) (s : State) : (issue i s).operands = s.operands := by
  obtain ⟨-, h⟩ | ⟨e, -, -, h⟩ | ⟨-, -, h⟩ := issue_cases i s <;> rw [h]
  · exact reject_operands e s
  · exact accept_operands i s

theorem issue_pending_replies (i : Instr) (s : State) :
    (issue i s).pending = s.pending ∧ (issue i s).replies = s.replies := by
  obtain ⟨-, h⟩ | ⟨e, -, -, h⟩ | ⟨-, -, h⟩ := issue_cases i s <;> rw [h]
  · exact ⟨rfl, rfl⟩
  · exact ⟨rfl, rfl⟩
  · cases i <;> exact ⟨rfl, rfl⟩

/-- The CMD write of DT keeps its input (R90). -/
theorem issue_dt_digest (s : State) : (issue .dt s).digest = s.digest ∧ (issue .dt s).dv = s.dv := by
  obtain ⟨-, h⟩ | ⟨e, -, -, h⟩ | ⟨-, -, h⟩ := issue_cases .dt s <;> rw [h] <;> exact ⟨rfl, rfl⟩

/-- The CMD write of FMT keeps its input and what that was made of (R90). -/
theorem issue_fmt_trunc (d : BitVec 4) (s : State) :
    (issue (.fmt d) s).digest = s.digest ∧ (issue (.fmt d) s).dv = s.dv ∧ (issue (.fmt d) s).offset = s.offset
      ∧ (issue (.fmt d) s).trunc = s.trunc ∧ (issue (.fmt d) s).tv = s.tv := by
  obtain ⟨-, h⟩ | ⟨e, -, -, h⟩ | ⟨-, -, h⟩ := issue_cases (.fmt d) s <;> rw [h] <;> exact ⟨rfl, rfl, rfl, rfl, rfl⟩

/-- Settles O28: a CMD write is lost, a rejection or an acceptance, and none of these touches an operand or the input of
the command. -/
theorem commandWriteFrame : Obligations.CommandWriteFrame := by
  unfold Obligations.CommandWriteFrame
  simp only [exec_eq_next_iff]
  refine ⟨?_, ?_, ?_⟩
  · rintro i s _ rfl
    obtain ⟨hkey, hkeyLen, hmfHi, hmfLo⟩ := (operands_eq_iff _ _).1 (issue_operands i s)
    obtain ⟨hpending, hreplies⟩ := issue_pending_replies i s
    refine ⟨hkey, hkeyLen, hmfHi, hmfLo, hpending, hreplies, fun a hne hrange => ?_, issue_busy i s⟩
    exact regRead_congr a _ _ (by bv_omega) (fun _ => hkeyLen) (fun _ => ⟨hmfHi, hmfLo⟩) (by bv_omega) (by bv_omega)
      (by bv_omega)
  · rintro s _ rfl
    obtain ⟨hdigest, hdv⟩ := issue_dt_digest s
    refine ⟨hdigest, hdv, fun a hlo => ?_⟩
    exact regRead_congr a _ _ (by bv_omega) (by bv_omega) (by bv_omega) (by bv_omega) (by bv_omega)
      (fun _ _ => hdigest)
  · rintro d s _ rfl
    obtain ⟨hdigest, hdv, hoffset, htrunc, htv⟩ := issue_fmt_trunc d s
    refine ⟨hdigest, hdv, hoffset, htrunc, htv, fun a hrange => ?_⟩
    exact regRead_congr a _ _ (by bv_omega) (by bv_omega) (by bv_omega) (fun _ => ⟨hoffset, htrunc⟩) (by bv_omega)
      (fun _ _ => hdigest)

/-! ### The completion step -/

/-- Settles O29: each unit writes its own result and its flag, and ZERO the operands; the end common to all writes STATUS and
the hidden registers only. -/
theorem completionFrame : Obligations.CompletionFrame := by
  unfold Obligations.CompletionFrame
  intro s hbusy t
  have ht : t = (compute s).finish := complete_busy s hbusy
  obtain ⟨herr, hcode⟩ := complete_error s
  refine ⟨herr, hcode, ?_, ?_, fun hop => ?_, fun hop => ?_, fun hop => ?_, fun hop => ?_, fun hop => ?_⟩
  · rw [ht]; exact compute_pending s
  · rw [ht]; exact compute_replies s
  · exact (operands_eq_iff s t).1 (complete_operands s fun h => hop h.2)
  · rw [compute_hmac s hop] at ht
    rw [ht]
    refine ⟨rfl, rfl, rfl, rfl, rfl, rfl, rfl, fun a hstatus hrange => ?_⟩
    exact regRead_congr a _ _ (fun h => absurd h hstatus) (fun _ => rfl) (fun _ => ⟨rfl, rfl⟩) (fun _ => ⟨rfl, rfl⟩)
      (fun _ _ => ⟨rfl, rfl, rfl⟩) (by omega)
  · rw [compute_dt s hop] at ht
    rw [ht]
    refine ⟨rfl, rfl, rfl, rfl, rfl, rfl, fun a hstatus hoffset htrunc => ?_⟩
    exact regRead_congr a _ _ (fun h => absurd h hstatus) (fun _ => rfl) (fun _ => ⟨rfl, rfl⟩)
      (fun h => (h.elim hoffset htrunc).elim) (fun _ _ => ⟨rfl, rfl, rfl⟩) (fun _ _ => rfl)
  · rw [compute_fmt s hop] at ht
    rw [ht]
    refine ⟨rfl, rfl, rfl, rfl, rfl, fun a hrange => ?_⟩
    exact regRead_congr a _ _ (by bv_omega) (fun _ => rfl) (fun _ => ⟨rfl, rfl⟩) (fun _ => ⟨rfl, rfl⟩) (by omega)
      (fun _ _ => rfl)
  · rw [compute_zero s hop] at ht
    rw [ht]
    exact ⟨rfl, rfl, rfl, rfl, rfl, rfl, rfl, rfl, rfl⟩

/-! ### A store outside CMD -/

theorem statusWord_congr (s t : State) (hresults : t.results = s.results) (hcontrol : t.control = s.control) :
    statusWord t = statusWord s := by
  obtain ⟨-, -, -, -, -, -, hdv, htv, hcv⟩ := (results_eq_iff s t).1 hresults
  obtain ⟨hbusy, hdone, herr, hcode, -, -⟩ := (control_eq_iff s t).1 hcontrol
  rw [statusWord, statusWord, hbusy, hdone, herr, hdv, htv, hcv, hcode]

/-- A write outside CMD keeps the results and the control state, whether it is lost or stored (R54, R55). -/
theorem regWrite_keeps_results_control (a : BitVec 6) (v : Word) (s t : State) (ha : a ≠ cmdIndex)
    (ht : regWrite a v s = .next t) : t.results = s.results ∧ t.control = s.control := by
  obtain ⟨hcmd, -⟩ | ⟨-, h⟩ | ⟨-, -, h⟩ := regWrite_cases a v s
  · exact absurd hcmd ha
  · obtain rfl := Host.Outcome.next.inj (h.symm.trans ht)
    exact ⟨rfl, rfl⟩
  · obtain rfl := Host.Outcome.next.inj (h.symm.trans ht)
    exact ⟨storeOperand_results a v s, storeOperand_control a v s⟩

/-- Settles O58: the write is lost or stored in an operand, and only the operand indices show that. -/
theorem resultsOutliveOperandWrites : Obligations.ResultsOutliveOperandWrites := by
  unfold Obligations.ResultsOutliveOperandWrites
  intro s t a v hturn ha ht
  obtain ⟨rest, hpending⟩ := List.head?_eq_some_iff.1 hturn
  rw [step_of_action s _ rest hpending] at ht
  obtain ⟨hresults, hcontrol⟩ := regWrite_keeps_results_control a v (s.withPending rest) t ha ht
  obtain ⟨hdigest, hoffset, htrunc, hbin, hlen, hcode, -⟩ := (results_eq_iff _ _).1 hresults
  have hstatus : statusWord t = statusWord s := statusWord_congr (s.withPending rest) t hresults hcontrol
  refine ⟨hdigest, hoffset, htrunc, hbin, hlen, hcode, hstatus, fun b hrange => ?_⟩
  exact regRead_congr b _ _ (fun _ => hstatus) (by bv_omega) (by bv_omega) (fun _ => ⟨hoffset, htrunc⟩)
    (fun _ _ => ⟨hbin, hlen, hcode⟩) (fun _ _ => hdigest)

/-! ### Any step -/

/-- The ENGINE's turn changes something only while busy, and an operand only for ZERO (R89, R164). -/
theorem complete_changes (s : State) :
    ((complete s).operands ≠ s.operands → s.busy = true ∧ s.curOp = 5)
      ∧ ((complete s).results ≠ s.results → s.busy = true) ∧ ((complete s).control ≠ s.control → s.busy = true) := by
  refine ⟨fun h => by_contra fun hnot => h (complete_operands s hnot), fun h => ?_, fun h => ?_⟩ <;>
    refine Bool.eq_true_of_not_eq_false fun hidle => h (by rw [complete_idle s hidle])

/-- A write to CMD changes something only while idle, and a result only by an acceptance (R55, R88, R189). -/
theorem afterCmdWrite_changes (w : Word) (s : State) :
    ((afterCmdWrite w s).results ≠ s.results → s.busy = false ∧ ∃ i, decode w = .legal i ∧ check i s = none)
      ∧ ((afterCmdWrite w s).control ≠ s.control → s.busy = false) := by
  obtain ⟨-, h⟩ | ⟨e, hidle, -, h⟩ | ⟨i, hidle, hw, hcheck, -⟩ := afterCmdWrite_cases w s
  · rw [h]
    exact ⟨fun hne => absurd rfl hne, fun hne => absurd rfl hne⟩
  · rw [h]
    exact ⟨fun hne => absurd (reject_results e s) hne, fun _ => hidle⟩
  · exact ⟨fun _ => ⟨hidle, i, hw, hcheck⟩, fun _ => hidle⟩

/-- Settles O30: a step is one of the actions of `step_cases`, and each keeps the parts of the state it is not listed
for. -/
theorem onlyTheseActionsChangeState : Obligations.OnlyTheseActionsChangeState := by
  unfold Obligations.OnlyTheseActionsChangeState
  intro s t ht
  have hnext (u : State) (hu : step s = .next u) : u = t := Host.Outcome.next.inj (hu.symm.trans ht)
  have hhead {x rest} (hpending : s.pending = x :: rest) : s.pending.head? = some x := by rw [hpending]; rfl
  change (t.operands ≠ s.operands → _) ∧ (t.results ≠ s.results → _) ∧ (t.control ≠ s.control → _)
  obtain ⟨hnone, hu⟩ | ⟨x, rest, hp, ⟨rfl, hu⟩ | ⟨a, -, hu⟩ | ⟨w, rfl, hu⟩ | ⟨a, v, -, -, hu⟩
    | ⟨a, v, rfl, -, hidle, hu⟩ | ⟨rfl, -⟩⟩ := step_cases s
  · obtain rfl := hnext _ hu
    obtain ⟨hoperands, hresults, hcontrol⟩ := complete_changes s
    exact ⟨fun h => .inr (.inl ⟨(hoperands h).1, .inl hnone, (hoperands h).2⟩),
      fun h => .inr (.inl ⟨hresults h, .inl hnone⟩), fun h => .inr (.inl ⟨hcontrol h, .inl hnone⟩)⟩
  · obtain rfl := hnext _ hu
    obtain ⟨hoperands, hresults, hcontrol⟩ := complete_changes (s.withPending rest)
    have hturn : s.engineTurn := .inr (hhead hp)
    exact ⟨fun h => .inr (.inl ⟨(hoperands h).1, hturn, (hoperands h).2⟩),
      fun h => .inr (.inl ⟨hresults h, hturn⟩), fun h => .inr (.inl ⟨hcontrol h, hturn⟩)⟩
  · obtain rfl := hnext _ hu
    exact ⟨fun h => absurd rfl h, fun h => absurd rfl h, fun h => absurd rfl h⟩
  · obtain rfl := hnext _ hu
    obtain ⟨hresults, hcontrol⟩ := afterCmdWrite_changes w (s.withPending rest)
    refine ⟨fun h => absurd (afterCmdWrite_operands w (s.withPending rest)) h, fun h => ?_,
      fun h => .inl ⟨hcontrol h, w, hhead hp⟩⟩
    obtain ⟨hidle, i, hw, hcheck⟩ := hresults h
    exact .inl ⟨hidle, w, i, hhead hp, hw, hcheck⟩
  · obtain rfl := hnext _ hu
    exact ⟨fun h => absurd rfl h, fun h => absurd rfl h, fun h => absurd rfl h⟩
  · obtain rfl := hnext _ hu
    refine ⟨fun h => .inl ⟨hidle, a, v, ?_, hhead hp⟩, fun h => absurd (storeOperand_results a v (s.withPending rest)) h,
      fun h => absurd (storeOperand_control a v (s.withPending rest)) h⟩
    exact by_contra fun hnot => h (by rw [storeOperand_of_not_operandIndex a v _ hnot]; rfl)
  · have hturn : s.resetTurn := hhead hp
    exact ⟨fun _ => .inr (.inr hturn), fun _ => .inr (.inr hturn), fun _ => .inr (.inr hturn)⟩

end Sys2Proof.Machine
end

section
/-! PROOFS. The invariant: each named update keeps the seven items of R35 under the condition it is made under, an
accepted command sets up what `State.InProgress` says, and so every step keeps both (R35, R87 to R90). -/

namespace Sys2Proof.Machine

/-! ### The seven items of R35 under each update -/

section Updates

variable {s : State} (h : s.Rule35)
include h

theorem State.Rule35.clearOutcome : s.clearOutcome.Rule35 :=
  { h with
    oneOfThree := ⟨by simp, by simp, by simp⟩
    errorCode := ⟨by simp, by simp⟩ }

/-- An error is set on an engine that is idle and not done. -/
theorem State.Rule35.setError (e : ErrCode) (hbusy : s.busy = false) (hdone : s.done = false) :
    (s.setError e).Rule35 :=
  { h with
    oneOfThree := ⟨by simp [hbusy], by simp [hbusy], by simp [hdone]⟩
    errorCode := by cases e <;> simp [ErrCode.code] }

/-- A command is latched when the outcome of the one before is cleared. -/
theorem State.Rule35.latch (i : Instr) (hdone : s.done = false) (herr : s.err = false) : (s.latch i).Rule35 :=
  { h with
    oneOfThree := ⟨by simp [hdone], by simp [herr], by simp [hdone]⟩
    current := by cases i <;> simp [Instr.opcode] }

theorem State.Rule35.clearCode : s.clearCode.Rule35 :=
  { h with
    validity := ⟨by simp, h.validity.2⟩
    invalidZero := ⟨h.invalidZero.1, h.invalidZero.2.1, by simp⟩
    formatting := by simp }

/-- The truncation is cleared together with the formatting, which is made of it. -/
theorem State.Rule35.clearTrunc_clearCode : s.clearTrunc.clearCode.Rule35 :=
  { h with
    validity := ⟨by simp, by simp⟩
    invalidZero := ⟨h.invalidZero.1, by simp, by simp⟩
    formatting := by simp
    truncation := by simp }

/-- The digest is cleared together with the two results made of it. -/
theorem State.Rule35.clearDigest_clearTrunc_clearCode : s.clearDigest.clearTrunc.clearCode.Rule35 :=
  { h with
    validity := ⟨by simp, by simp⟩
    invalidZero := ⟨by simp, by simp, by simp⟩
    formatting := by simp
    truncation := by simp }

theorem State.Rule35.clearResults (i : Instr) : (clearResults i s).Rule35 := by
  cases i with
  | hmac | gen | zero => exact h.clearDigest_clearTrunc_clearCode
  | dt => exact h.clearTrunc_clearCode
  | fmt => exact h.clearCode

/-- A digest is written while no result is made of an older one. -/
theorem State.Rule35.doHmac (htv : s.tv = false) : (doHmac s).Rule35 :=
  { h with
    validity := ⟨h.validity.1, fun _ => rfl⟩
    invalidZero := ⟨nofun, h.invalidZero.2⟩
    truncation := fun htrue => absurd (htv.symm.trans htrue) (by decide) }

/-- A truncation is written while the digest is valid and no formatting is made of an older one. -/
theorem State.Rule35.doDt (hdv : s.dv = true) (hcv : s.cv = false) : (doDt s).Rule35 :=
  { h with
    validity := ⟨fun _ => rfl, fun _ => hdv⟩
    invalidZero := ⟨h.invalidZero.1, nofun, h.invalidZero.2.2⟩
    formatting := fun htrue => absurd (hcv.symm.trans htrue) (by decide)
    truncation := fun _ => ⟨rfl, rfl⟩ }

/-- A formatting at 1 to 15 characters is written while the truncation is valid. -/
theorem State.Rule35.doFmt (d : BitVec 4) (htv : s.tv = true) (hd : d ≠ 0) : (doFmt d s).Rule35 :=
  { h with
    validity := ⟨fun _ => htv, h.validity.2⟩
    invalidZero := ⟨h.invalidZero.1, h.invalidZero.2.1, nofun⟩
    formatting := fun _ => by
      have hpos : d.toNat ≠ 0 := fun hzero => hd (BitVec.eq_of_toNat_eq hzero)
      have hbin : (Machine.doFmt d s).bin.toNat = binOf s.trunc.toNat d.toNat := ofNat_binOf_toNat s.trunc d.toNat
      refine ⟨⟨Nat.pos_of_ne_zero hpos, Nat.le_of_lt_succ d.isLt⟩, hbin, ?_⟩
      rw [hbin]
      rfl }

/-- GEN is the three units in series, each on what the one before left. -/
theorem State.Rule35.doGen (d : BitVec 4) (htv : s.tv = false) (hcv : s.cv = false) (hd : d ≠ 0) :
    (doGen d s).Rule35 :=
  ((h.doHmac htv).doDt rfl hcv).doFmt d rfl hd

theorem State.Rule35.doZero : (doZero s).Rule35 := { h with }

/-- A completion step ends a command that was not rejected. -/
theorem State.Rule35.finish (herr : s.err = false) : s.finish.Rule35 :=
  { h with
    oneOfThree := ⟨by simp, by simp, by simp [herr]⟩
    current := ⟨by simp, by simp⟩ }

/-- The seven items do not speak of the operands. -/
theorem State.Rule35.storeOperand (a : BitVec 6) (v : Word) : (storeOperand a v s).Rule35 := by
  obtain ⟨-, heq⟩ | ⟨-, heq⟩ | ⟨-, heq⟩ | ⟨-, heq⟩ | heq := storeOperand_cases a v s <;> rw [heq] <;> exact { h with }

end Updates

/-! ### The command procedure and the completion step -/

theorem State.Rule35.reject {s : State} (h : s.Rule35) (e : ErrCode) (hidle : s.busy = false) : (reject e s).Rule35 :=
  h.clearOutcome.setError e hidle rfl

theorem State.Rule35.accept {s : State} (h : s.Rule35) (i : Instr) : (accept i s).Rule35 := by
  have hcleared := h.clearOutcome.clearResults i
  cases i <;> exact hcleared.latch _ rfl rfl

/-- Nothing is in progress while idle. -/
theorem inProgress_of_idle (s : State) (hidle : s.busy = false) : s.InProgress where
  cleared hbusy := absurd (hidle.symm.trans hbusy) (by decide)
  key hbusy := absurd (hidle.symm.trans hbusy) (by decide)
  input hbusy := absurd (hidle.symm.trans hbusy) (by decide)
  digits hbusy := absurd (hidle.symm.trans hbusy) (by decide)

@[simp] theorem accept_curOp (i : Instr) (s : State) : (accept i s).curOp = i.opcode := rfl
@[simp] theorem accept_curDigits (i : Instr) (s : State) : (accept i s).curDigits = i.digitsField := rfl

/-- Acceptance clears what the command will overwrite, and the checks it passed give the rest (R87, R90). -/
theorem inProgress_accept (i : Instr) (s : State) (hcheck : check i s = none) : (accept i s).InProgress := by
  rw [check_eq_none] at hcheck
  cases i with
  | hmac =>
    exact {
      cleared := fun _ => ⟨rfl, fun _ => rfl, fun _ _ => rfl⟩
      key := fun _ _ => hcheck
      input := by simp [Instr.opcode]
      digits := by simp [Instr.opcode, Instr.digitsField] }
  | dt =>
    exact {
      cleared := fun _ => ⟨rfl, fun _ => rfl, by simp [Instr.opcode]⟩
      key := by simp [Instr.opcode]
      input := fun _ => ⟨fun _ => hcheck, by simp [Instr.opcode]⟩
      digits := by simp [Instr.opcode, Instr.digitsField] }
  | fmt d =>
    obtain ⟨htv, hd⟩ := hcheck
    exact {
      cleared := fun _ => ⟨rfl, by simp [Instr.opcode], by simp [Instr.opcode]⟩
      key := by simp [Instr.opcode]
      input := fun _ => ⟨by simp [Instr.opcode], fun _ => htv⟩
      digits := fun _ => ⟨fun _ => hd, fun _ => .inl rfl⟩ }
  | gen d =>
    obtain ⟨hkey, hd⟩ := hcheck
    exact {
      cleared := fun _ => ⟨rfl, fun _ => rfl, fun _ _ => rfl⟩
      key := fun _ _ => hkey
      input := by simp [Instr.opcode]
      digits := fun _ => ⟨fun _ => hd, fun _ => .inr rfl⟩ }
  | zero =>
    exact {
      cleared := fun _ => ⟨rfl, fun _ => rfl, fun _ _ => rfl⟩
      key := by simp [Instr.opcode]
      input := by simp [Instr.opcode]
      digits := by simp [Instr.opcode, Instr.digitsField] }

/-- What the command in progress computes keeps the seven items: its checks and the results cleared for it are what each
unit needs (R87, R90). -/
theorem State.Inv.rule35_compute {s : State} (h : s.Inv) (hbusy : s.busy = true) : (compute s).Rule35 := by
  obtain ⟨hrule, hprogress⟩ := h
  obtain ⟨hcv, htv, -⟩ := hprogress.cleared hbusy
  obtain ⟨hdv, htvalid⟩ := hprogress.input hbusy
  have hdigits := hprogress.digits hbusy
  obtain ⟨hlo, hhi⟩ := hrule.current.2 hbusy
  have hop : s.curOp = 1 ∨ s.curOp = 2 ∨ s.curOp = 3 ∨ s.curOp = 4 ∨ s.curOp = 5 := by bv_omega
  obtain hop | hop | hop | hop | hop := hop
  · rw [compute_hmac s hop]
    exact hrule.doHmac (htv (by simp [hop]))
  · rw [compute_dt s hop]
    exact hrule.doDt (hdv hop) hcv
  · rw [compute_fmt s hop]
    exact hrule.doFmt _ (htvalid hop) (hdigits.1 (.inl hop))
  · rw [compute_gen s hop]
    exact hrule.doGen _ (htv (by simp [hop])) hcv (hdigits.1 (.inr hop))
  · rw [compute_zero s hop]
    exact hrule.doZero

/-! ### The invariant under each action -/

theorem inv_of_rule35_of_idle {s : State} (h : s.Rule35) (hidle : s.busy = false) : s.Inv :=
  ⟨h, inProgress_of_idle s hidle⟩

/-- Settles O54: every flag and every register is zero, and nothing is in progress. -/
theorem invariantAtReset : Obligations.InvariantAtReset := by
  unfold Obligations.InvariantAtReset
  refine inv_of_rule35_of_idle ?_ rfl
  exact {
    oneOfThree := by decide
    errorCode := by decide
    validity := by decide
    invalidZero := ⟨fun _ => rfl, fun _ => ⟨rfl, rfl⟩, fun _ => ⟨rfl, rfl, rfl⟩⟩
    current := by decide
    formatting := nofun
    truncation := nofun }

theorem State.Inv.complete {s : State} (h : s.Inv) : (complete s).Inv := by
  cases hbusy : s.busy with
  | false => rwa [complete_idle s hbusy]
  | true =>
    have herr : s.err = false := by
      obtain ⟨-, hnot, -⟩ := h.1.oneOfThree
      exact Bool.eq_false_iff.2 fun herr => hnot ⟨hbusy, herr⟩
    rw [complete_busy s hbusy]
    exact inv_of_rule35_of_idle ((h.rule35_compute hbusy).finish ((compute_error s).1.trans herr)) rfl

theorem State.Inv.afterCmdWrite {s : State} (h : s.Inv) (w : Word) : (afterCmdWrite w s).Inv := by
  obtain ⟨-, heq⟩ | ⟨e, hidle, -, heq⟩ | ⟨i, -, -, hcheck, heq⟩ := afterCmdWrite_cases w s
  · rwa [heq]
  · rw [heq]
    exact inv_of_rule35_of_idle (h.1.reject e hidle) hidle
  · rw [heq]
    exact ⟨h.1.accept i, inProgress_accept i s hcheck⟩

/-- A store is made while idle, and only operands take it. -/
theorem State.Inv.storeOperand {s : State} (h : s.Inv) (hidle : s.busy = false) (a : BitVec 6) (v : Word) :
    (storeOperand a v s).Inv := by
  obtain ⟨hbusy, -⟩ := (control_eq_iff _ _).1 (storeOperand_control a v s)
  exact inv_of_rule35_of_idle (h.1.storeOperand a v) (hbusy.trans hidle)

/-- Settles O55: the ENGINE's turn, a write to CMD and a store each keep the invariant; a read and a lost write change the
model's own fields only, and reset leaves the reset state. -/
theorem stepKeepsInvariant : Obligations.StepKeepsInvariant := by
  unfold Obligations.StepKeepsInvariant
  intro s t h ht
  have hnext (u : State) (hu : step s = .next u) : u = t := Host.Outcome.next.inj (hu.symm.trans ht)
  have hrest (rest : List Action) : (s.withPending rest).Inv := inv_of_engineOnly s _ rfl h
  obtain ⟨-, hu⟩ | ⟨x, rest, -, ⟨-, hu⟩ | ⟨a, -, hu⟩ | ⟨w, -, hu⟩ | ⟨a, v, -, -, hu⟩ | ⟨a, v, -, -, hidle, hu⟩
    | ⟨-, hu⟩⟩ := step_cases s <;> rw [← hnext _ hu]
  · exact h.complete
  · exact (hrest rest).complete
  · exact inv_of_engineOnly s _ rfl h
  · exact (hrest rest).afterCmdWrite w
  · exact hrest rest
  · exact (hrest rest).storeOperand hidle a v
  · exact inv_of_engineOnly State.reset _ rfl invariantAtReset

/-- Settles O56: reset meets the invariant and every step of a run keeps it. -/
theorem reachableStatesMeetRule35 : Obligations.ReachableStatesMeetRule35 := by
  unfold Obligations.ReachableStatesMeetRule35
  rintro t ⟨actions, n, hrun⟩
  have hstart : (State.reset.withPending actions).Inv := inv_of_engineOnly State.reset _ rfl invariantAtReset
  exact (run_keeps State.Inv stepKeepsInvariant n _ t hstart hrun).1

end Sys2Proof.Machine
end

section
/-! PROOFS. KEY is unreadable: two states that differ in KEY alone are led by every action but the completion of HMAC and
GEN to two states that differ in KEY alone (R22, R194). -/

namespace Sys2Proof.Machine

/-- The state with another key buffer. -/
def State.withKey (k : Vector Word 32) (s : State) : State := { s with key := k }

@[simp] theorem State.withKey_busy (k : Vector Word 32) (s : State) : (s.withKey k).busy = s.busy := rfl
@[simp] theorem State.withKey_curOp (k : Vector Word 32) (s : State) : (s.withKey k).curOp = s.curOp := rfl

/-- The two states differ in KEY alone, if at all. -/
def agreeButKey (t u : State) : Prop := u = t.withKey u.key

theorem agreeButKey_withKey (s : State) (k : Vector Word 32) : agreeButKey s (s.withKey k) := rfl

/-- No index shows KEY (R22, R53). -/
theorem regRead_withKey (a : BitVec 6) (s : State) (k : Vector Word 32) :
    regRead a (s.withKey k) = regRead a s := by
  unfold regRead
  split <;> rfl

/-- Of the computations only HMAC and GEN read KEY (R110). -/
theorem complete_agreeButKey (s : State) (k : Vector Word 32)
    (h : ¬(s.busy = true ∧ (s.curOp = 1 ∨ s.curOp = 4))) :
    agreeButKey (complete s) (complete (s.withKey k)) := by
  cases hbusy : s.busy with
  | false =>
    rw [complete_idle s hbusy, complete_idle (s.withKey k) hbusy]
    rfl
  | true =>
    have hhmac : s.curOp ≠ 1 := fun hop => h ⟨hbusy, .inl hop⟩
    have hgen : s.curOp ≠ 4 := fun hop => h ⟨hbusy, .inr hop⟩
    rw [complete_busy s hbusy, complete_busy (s.withKey k) hbusy]
    simp only [compute, State.withKey_curOp]
    split
    case h_1 hop => exact absurd (BitVec.eq_of_toNat_eq hop) hhmac
    case h_4 hop => exact absurd (BitVec.eq_of_toNat_eq hop) hgen
    all_goals rfl

/-- The command procedure commutes with an update that its tests do not see and its two outcomes do not write. -/
theorem issue_commutes (f : State → State) (i : Instr) (s : State) (hbusy : (f s).busy = s.busy)
    (hcheck : check i (f s) = check i s) (hreject : ∀ e, reject e (f s) = f (reject e s))
    (haccept : accept i (f s) = f (accept i s)) : issue i (f s) = f (issue i s) := by
  obtain ⟨h, heq⟩ | ⟨e, h, he, heq⟩ | ⟨h, hnone, heq⟩ := issue_cases i s <;> rw [heq]
  · exact issue_busy i (f s) (hbusy.trans h)
  · rw [issue_rejected i (f s) e (hbusy.trans h) (hcheck.trans he), hreject]
  · rw [issue_accepted i (f s) (hbusy.trans h) (hcheck.trans hnone), haccept]

/-- The checks look at KEYLEN and never at KEY (R87). -/
theorem issue_withKey (i : Instr) (s : State) (k : Vector Word 32) :
    issue i (s.withKey k) = (issue i s).withKey k :=
  issue_commutes (State.withKey k) i s rfl (by cases i <;> rfl) (fun _ => rfl) (by cases i <;> rfl)

theorem issueIllegal_withKey (s : State) (k : Vector Word 32) :
    issueIllegal (s.withKey k) = (issueIllegal s).withKey k := by
  cases hbusy : s.busy with
  | true => rw [issueIllegal_busy s hbusy, issueIllegal_busy (s.withKey k) hbusy]
  | false => rw [issueIllegal_idle s hbusy, issueIllegal_idle (s.withKey k) hbusy]; rfl

theorem afterCmdWrite_withKey (w : Word) (s : State) (k : Vector Word 32) :
    afterCmdWrite w (s.withKey k) = (afterCmdWrite w s).withKey k := by
  unfold afterCmdWrite
  cases decode w with
  | legal i => exact issue_withKey i s k
  | illegal why => exact issueIllegal_withKey s k

theorem storeOperand_agreeButKey (a : BitVec 6) (v : Word) (s : State) (k : Vector Word 32) :
    agreeButKey (storeOperand a v s) (storeOperand a v (s.withKey k)) := by
  unfold storeOperand
  split_ifs <;> rfl

theorem regWrite_agreeButKey (a : BitVec 6) (v : Word) (s t : State) (k : Vector Word 32)
    (ht : regWrite a v s = .next t) : ∃ u, regWrite a v (s.withKey k) = .next u ∧ agreeButKey t u := by
  obtain ⟨rfl, h⟩ | ⟨hbusy, h⟩ | ⟨ha, hidle, h⟩ := regWrite_cases a v s <;>
    obtain rfl := Host.Outcome.next.inj (h.symm.trans ht)
  · exact ⟨_, cmdWrite_eq v _, by rw [afterCmdWrite_withKey]; exact agreeButKey_withKey _ k⟩
  · exact ⟨_, regWrite_busy a v (s.withKey k) hbusy, rfl⟩
  · exact ⟨_, regWrite_idle a v (s.withKey k) ha hidle, storeOperand_agreeButKey a v s k⟩

/-- Every action but the completion of HMAC and GEN (R194). -/
theorem perform_agreeButKey (x : Action) (s t : State) (k : Vector Word 32)
    (h : ¬(s.busy = true ∧ x = .engine ∧ (s.curOp = 1 ∨ s.curOp = 4))) (ht : perform x s = .next t) :
    ∃ u, perform x (s.withKey k) = .next u ∧ agreeButKey t u := by
  cases x with
  | engine =>
    obtain rfl := Host.Outcome.next.inj ht
    exact ⟨_, rfl, complete_agreeButKey s k fun ⟨hbusy, hop⟩ => h ⟨hbusy, rfl, hop⟩⟩
  | reset =>
    obtain rfl := Host.Outcome.next.inj ht
    exact ⟨_, rfl, rfl⟩
  | host x =>
    cases x with
    | regRead a =>
      obtain rfl := Host.Outcome.next.inj ht
      refine ⟨_, rfl, ?_⟩
      rw [regRead_withKey]
      rfl
    | regWrite a v => exact regWrite_agreeButKey a v s t k ht

/-- Settles O31: the step performs the same action on both states. -/
theorem keyIsUnreadable : Obligations.KeyIsUnreadable := by
  unfold Obligations.KeyIsUnreadable
  intro s k t ht hother
  change ∃ u, step (s.withKey k) = .next u ∧ agreeButKey t u
  cases hpending : s.pending with
  | nil =>
    obtain rfl := Host.Outcome.next.inj ((step_of_no_action s hpending).symm.trans ht)
    exact ⟨_, step_of_no_action (s.withKey k) hpending,
      complete_agreeButKey s k fun ⟨hbusy, hop⟩ => hother ⟨hbusy, .inl hpending, hop⟩⟩
  | cons x rest =>
    rw [step_of_action s x rest hpending] at ht
    rw [step_of_action (s.withKey k) x rest hpending]
    refine perform_agreeButKey x (s.withPending rest) t k (fun ⟨hbusy, hx, hop⟩ => ?_) ht
    exact hother ⟨hbusy, .inr (by rw [hpending, hx]; rfl), hop⟩

end Sys2Proof.Machine
end

section
/-! PROOFS. The units as functions of what they read: the blocks HMAC compresses, the truncation in terms of the DIGEST
registers and of the bytes it reads, the reduction, and the code at fewer characters (R115, R133, R136, R142, R148). -/

namespace Sys2Proof.Machine

/-! ### Blocks -/

/-- The number of blocks of a message of L bytes (R101, R115). -/
theorem blockCount_eq (msg : List Byte) : blockCount msg = (msg.length + 8) / 64 + 1 := by
  rw [blockCount, pad_length, Nat.mul_div_cancel_left _ (by decide)]

/-- Settles O40: the lengths of the two hashed messages are 72 and 84, and the counts follow from the lengths. -/
theorem compressionCount : Obligations.CompressionCount := by
  unfold Obligations.CompressionCount
  intro key msg hmsg
  have hinner : (xorEach 0x36 (keyBlock key) ++ msg).length = 72 := by
    rw [List.length_append, xorEach_length, keyBlock_length, hmsg]
  have houter : (outerMessage key msg).length = 84 := by
    rw [outerMessage, List.length_append, xorEach_length, keyBlock_length, sha1_length]
  refine ⟨by rw [blockCount_eq, hinner], by rw [blockCount_eq, houter], fun hlo hhi => ?_, fun hlo hhi => ?_⟩
  · rw [blockCount_eq]; omega
  · rw [blockCount_eq]; omega

/-! ### The truncation -/

/-- Byte number i of a packed buffer as a byte of word `i div 4`; past the end both are 0 (R57). -/
theorem byteAt_packedBytes (ws : List Word) (i : Nat) :
    byteAt (packedBytes ws) i = (ws.getD (i / 4) 0).extractLsb' (24 - 8 * (i % 4)) 8 := by
  rw [byteAt, List.getD_eq_getElem?_getD, packedBytes_getElem?, List.getD_eq_getElem?_getD]
  cases ws[i / 4]? with
  | none => simp
  | some w => rfl

/-- Words q and q+1 of a buffer as one 64-bit number. -/
def twoWords (ws : List Word) (q : Nat) : Nat := (ws.getD q 0).toNat * 2 ^ 32 + (ws.getD (q + 1) 0).toNat

/-- The eight bytes from word q on are those of the two words, from the top down (R57). -/
theorem byteAt_packedBytes_toNat (ws : List Word) (q m : Nat) (h : m < 8) :
    (byteAt (packedBytes ws) (4 * q + m)).toNat = twoWords ws q / 2 ^ (56 - 8 * m) % 2 ^ 8 := by
  have hsnd := (ws.getD (q + 1) 0).isLt
  rw [byteAt_packedBytes, BitVec.extractLsb'_toNat, Nat.shiftRight_eq_div_pow, twoWords]
  obtain hfirst | hsecond := Nat.lt_or_ge m 4
  · have hword : (4 * q + m) / 4 = q := by omega
    have hbyte : (4 * q + m) % 4 = m := by omega
    rw [hword, hbyte]
    interval_cases m <;> omega
  · have hword : (4 * q + m) / 4 = q + 1 := by omega
    have hbyte : (4 * q + m) % 4 = m - 4 := by omega
    rw [hword, hbyte]
    interval_cases m <;> omega

/-- Four bytes in a row lie in two words: they are 32 of their 64 bits, from `8*r` bits below the top on (R133). -/
theorem beWord_packedBytes_toNat (ws : List Word) (q r : Nat) (h : r < 4) :
    (beWord (packedBytes ws) (4 * q + r)).toNat = twoWords ws q / 2 ^ (32 - 8 * r) % 2 ^ 32 := by
  have hbyte := byteAt_packedBytes_toNat ws q
  simp only [beWord, be32_toNat, Nat.add_assoc]
  rw [hbyte r (by omega), hbyte (r + 1) (by omega), hbyte (r + 2) (by omega), hbyte (r + 3) (by omega)]
  interval_cases r <;> omega

/-- Settles O43: the last byte is the low byte of DIGEST[4], and the four bytes at the offset span two registers. -/
theorem truncationFromRegisters : Obligations.TruncationFromRegisters := by
  unfold Obligations.TruncationFromRegisters
  intro s o
  have hword := beWord_packedBytes_toNat s.digest.toList (o / 4) (o % 4) (Nat.mod_lt _ (by decide))
  rw [Nat.div_add_mod] at hword
  refine ⟨?_, hword⟩
  have hlast : byteAt (digestBytes s) 19 = s.digest[4].extractLsb' 0 8 := by
    rw [digestBytes, byteAt_packedBytes]
    simp
  apply BitVec.eq_of_toNat_eq
  rw [offsetOf_toNat_eq_mod, hlast]
  simp only [BitVec.extractLsb'_toNat]
  omega

/-- Settles O44: the truncation as a number is the sum of the four bytes less the sign bit, at an offset of at most 15. -/
theorem truncationDependsOnFiveBytes : Obligations.TruncationDependsOnFiveBytes := by
  unfold Obligations.TruncationDependsOnFiveBytes
  refine ⟨fun d => by have := (offsetOf d).isLt; omega, fun d e hnibble hbytes => ?_⟩
  obtain ⟨h0, h1, h2, h3⟩ := hbytes
  have hoffset : offsetOf d = offsetOf e := by rw [offsetOf, offsetOf, hnibble]
  have hmod : (byteAt e 19).toNat % 16 = (byteAt d 19).toNat % 16 := by
    rw [← offsetOf_toNat_eq_mod, ← offsetOf_toNat_eq_mod, hoffset]
  refine ⟨hoffset, BitVec.eq_of_toNat_eq ?_⟩
  rw [truncOf_toNat_eq_beWord, truncOf_toNat_eq_beWord, hmod, beWord_signCleared_toNat, beWord_signCleared_toNat,
    h0, h1, h2, h3]

/-! ### The reduction and the characters -/

/-- Ten digits are enough for 31 bits (R142). -/
theorem binOf_of_ten_le (t : BitVec 31) (d : Nat) (h : 10 ≤ d) : binOf t.toNat d = t.toNat := by
  have hpow : 10 ^ 10 ≤ 10 ^ d := Nat.pow_le_pow_right (by decide) h
  exact Nat.mod_eq_of_lt (by omega)

/-- Settles O45: a remainder is no larger than what it is taken of. -/
theorem reductionFitsBin : Obligations.ReductionFitsBin := by
  unfold Obligations.ReductionFitsBin
  exact fun t d => ⟨binOf_of_ten_le t d, Nat.lt_of_le_of_lt (Nat.mod_le _ _) t.isLt, ofNat_binOf_toNat t d⟩

/-- A reduction to d digits keeps each of the d lowest digits (R142). -/
theorem mod_pow_div_mod_ten (t d j : Nat) (h : j < d) : t % 10 ^ d / 10 ^ j % 10 = t / 10 ^ j % 10 := by
  obtain ⟨k, rfl⟩ := Nat.exists_eq_add_of_lt h
  rw [show j + k + 1 = j + (k + 1) from rfl, Nat.pow_add, Nat.mod_mul_right_div_self,
    Nat.mod_mod_of_dvd _ (dvd_pow_self 10 (Nat.succ_ne_zero k))]

/-- Character k of the code at d1 characters is character `d2 - d1 + k` of the code at d2: both are the digit of weight
`10^(d1-1-k)` (R148). -/
theorem charOf_binOf_shift (t d1 d2 k : Nat) (h : d1 < d2) (hk : k < d1) :
    charOf (binOf t d1) d1 k = charOf (binOf t d2) d2 (d2 - d1 + k) := by
  have hplace : d2 - 1 - (d2 - d1 + k) = d1 - 1 - k := by omega
  rw [charOf, charOf, hplace, binOf, binOf, mod_pow_div_mod_ten t d1 _ (by omega), mod_pow_div_mod_ten t d2 _ (by omega)]

/-- Settles O48: `10^d1` divides `10^d2`, and the codes agree character by character from the end. -/
theorem shorterCodeIsSuffix : Obligations.ShorterCodeIsSuffix := by
  unfold Obligations.ShorterCodeIsSuffix
  intro t d1 d2 h
  refine ⟨(Nat.mod_mod_of_dvd t (Nat.pow_dvd_pow 10 (Nat.le_of_lt h))).symm, ?_⟩
  refine List.ext_getElem (by simp; omega) fun k hk _ => ?_
  rw [charsOf_length] at hk
  simp only [charsOf, List.getElem_map, List.getElem_range, List.getElem_drop]
  exact charOf_binOf_shift t d1 d2 k h hk

end Sys2Proof.Machine
end

section
/-! PROOFS. Whole commands: what each word does first after reset, and what the results depend on (R3, R116, R203). -/

namespace Sys2Proof.Machine

/-! ### The first command after reset -/

theorem regWrite_encode (i : Instr) (s : State) : regWrite cmdIndex (encode i) s = exec i s :=
  regWrite_cmd_legal _ s i ((decode_eq_legal_iff _ i).2 rfl)

/-- After reset there is no key, no digest and no truncated value, so every command but ZERO fails its first check. -/
theorem regWrite_encode_reset (i : Instr) (e : ErrCode) (hcheck : check i State.reset = some e) :
    regWrite cmdIndex (encode i) State.reset = .next { State.reset with err := true, errCode := e.code } := by
  rw [regWrite_encode, exec_rejected i State.reset e rfl hcheck]
  rfl

/-- Settles O27: the first check of each command at reset, and ZERO, which has none. -/
theorem firstCommandAfterReset : Obligations.FirstCommandAfterReset := by
  unfold Obligations.FirstCommandAfterReset
  rw [show (0x00000001 : Word) = encode .hmac from encode_hmac.symm,
    show (0x00000002 : Word) = encode .dt from encode_dt.symm,
    show (0x00000005 : Word) = encode .zero from encode_zero.symm]
  refine ⟨regWrite_encode_reset .hmac .keyEmpty rfl, fun d => regWrite_encode_reset (.gen d) .keyEmpty rfl,
    regWrite_encode_reset .dt .seq rfl, fun d => regWrite_encode_reset (.fmt d) .seq rfl, fun w why hw => ?_, ?_⟩
  · rw [regWrite_cmd_illegal w State.reset why hw rfl]
    rfl
  · refine ⟨accept .zero State.reset, ?_, rfl, complete_accept_zero State.reset⟩
    rw [regWrite_encode, exec_zero_accepted State.reset rfl]

/-! ### What the results depend on -/

/-- A command that passes its checks while idle leaves its accepted state. -/
theorem eq_accept_of_exec (i : Instr) (s t : State) (hidle : s.busy = false) (hcheck : check i s = none)
    (ht : exec i s = .next t) : t = accept i s := by
  rw [← (exec_eq_next_iff i s t).1 ht, issue_accepted i s hidle hcheck]

/-- From acceptance to completion no command but ZERO changes an operand (R90, R116). -/
theorem complete_accept_operands (i : Instr) (s : State) (h : i ≠ .zero) :
    (complete (accept i s)).operands = s.operands := by
  have hop : (accept i s).curOp ≠ 5 := by
    rw [accept_curOp]
    cases i with
    | zero => exact absurd rfl h
    | hmac | dt | fmt | gen => simp [Instr.opcode]
  rw [complete_operands _ fun h => hop h.2, accept_operands]

theorem statusWord_complete_accept_hmac (s : State) : statusWord (complete (accept .hmac s)) = 0x00000012 := by
  rw [complete_accept_hmac]
  rfl

theorem statusWord_complete_accept_gen (d : BitVec 4) (s : State) :
    statusWord (complete (accept (.gen d) s)) = 0x00000072 := by
  rw [complete_accept_gen_series]
  rfl

/-- The formatting is a function of TRUNC and the number of characters (R146). -/
theorem doFmt_congr (d : BitVec 4) (s s' : State) (h : s.trunc = s'.trunc) :
    (doFmt d s).bin = (doFmt d s').bin ∧ (doFmt d s).codeLen = (doFmt d s').codeLen
      ∧ (doFmt d s).code = (doFmt d s').code := by
  simp [doFmt, h]

/-- The results of GEN are a function of the key bytes and the moving factor (R3, R161). -/
theorem complete_accept_gen_results (d : BitVec 4) (s s' : State) (hkey : keyBytes s = keyBytes s')
    (hmf : mfBytes s = mfBytes s') :
    (complete (accept (.gen d) s)).results = (complete (accept (.gen d) s')).results := by
  rw [complete_accept_gen_series, complete_accept_gen_series, hkey, hmf]
  rfl

/-- Settles O51: the accepted state holds the operands of the state before, and each unit is a function of its operands. -/
theorem resultsDependOnOperandsOnly : Obligations.ResultsDependOnOperandsOnly := by
  unfold Obligations.ResultsDependOnOperandsOnly
  refine ⟨?_, ?_, ?_, ?_⟩
  · intro s s' t t' hkey hhi hlo hidle hidle' hcheck hcheck' ht ht'
    rw [eq_accept_of_exec _ s t hidle hcheck ht, eq_accept_of_exec _ s' t' hidle' hcheck' ht']
    refine ⟨?_, ?_, (operands_eq_iff _ _).1 (complete_accept_operands .hmac s (by decide))⟩
    · rw [complete_accept_hmac, complete_accept_hmac, hkey, mfBytes_congr s' s hhi hlo]
      rfl
    · rw [statusWord_complete_accept_hmac, statusWord_complete_accept_hmac]
  · intro s s' d t t' hkey hhi hlo hidle hidle' hcheck hcheck' ht ht' a ha
    rw [eq_accept_of_exec _ s t hidle hcheck ht, eq_accept_of_exec _ s' t' hidle' hcheck' ht']
    have hresults := complete_accept_gen_results d s s' hkey (mfBytes_congr s' s hhi hlo)
    obtain ⟨hdigest, hoffset, htrunc, hbin, hlen, hcode, -⟩ := (results_eq_iff _ _).1 hresults
    obtain ⟨-, -, hmfHi, hmfLo⟩ := (operands_eq_iff _ _).1 (complete_accept_operands (.gen d) s nofun)
    obtain ⟨-, -, hmfHi', hmfLo'⟩ := (operands_eq_iff _ _).1 (complete_accept_operands (.gen d) s' nofun)
    refine regRead_congr a _ _ (fun _ => ?_) (by bv_omega) (fun _ => ⟨?_, ?_⟩) (fun _ => ⟨hoffset, htrunc⟩)
      (fun _ _ => ⟨hbin, hlen, hcode⟩) (fun _ _ => hdigest)
    · rw [statusWord_complete_accept_gen, statusWord_complete_accept_gen]
    · rw [hmfHi, hmfHi', hhi]
    · rw [hmfLo, hmfLo', hlo]
  · intro s s' t t' hdigest hidle hidle' hdv hdv' ht ht'
    have hcheck (s : State) (hdv : s.dv = true) : check .dt s = none := (check_eq_none .dt s).2 hdv
    rw [eq_accept_of_exec _ s t hidle (hcheck s hdv) ht, eq_accept_of_exec _ s' t' hidle' (hcheck s' hdv') ht',
      complete_accept_dt, complete_accept_dt, digestBytes_congr s' s hdigest]
    exact ⟨rfl, rfl⟩
  · intro s s' d t t' htrunc hidle hidle' htv htv' hd ht ht'
    have hcheck (s : State) (htv : s.tv = true) : check (.fmt d) s = none := (check_eq_none (.fmt d) s).2 ⟨htv, hd⟩
    rw [eq_accept_of_exec _ s t hidle (hcheck s htv) ht, eq_accept_of_exec _ s' t' hidle' (hcheck s' htv') ht',
      complete_accept_fmt, complete_accept_fmt]
    exact doFmt_congr d _ _ htrunc

end Sys2Proof.Machine
end

section
/-! PROOFS. Runs: GEN against the three commands in sequence, and that a busy engine completes (R162, R219). -/

namespace Sys2Proof.Machine

/-! ### The model's own two fields -/

/-- The same engine with other actions to come and other replies. -/
def State.withQueues (pending : List Action) (replies : List Word) (s : State) : State :=
  { s with pending := pending, replies := replies }

@[simp] theorem State.withQueues_curOp (p : List Action) (r : List Word) (s : State) :
    (s.withQueues p r).curOp = s.curOp := rfl

/-- The completion step reads and writes the engine's part of the state only. -/
theorem complete_withQueues (p : List Action) (r : List Word) (s : State) :
    complete (s.withQueues p r) = (complete s).withQueues p r := by
  cases hbusy : s.busy with
  | false => rw [complete_idle s hbusy, complete_idle (s.withQueues p r) hbusy]
  | true =>
    rw [complete_busy s hbusy, complete_busy (s.withQueues p r) hbusy]
    simp only [compute, State.withQueues_curOp]
    split <;> rfl

/-- So does the command procedure. -/
theorem issue_withQueues (i : Instr) (p : List Action) (r : List Word) (s : State) :
    issue i (s.withQueues p r) = (issue i s).withQueues p r :=
  issue_commutes (State.withQueues p r) i s rfl (by cases i <;> rfl) (fun _ => rfl) (by cases i <;> rfl)

theorem complete_replies (s : State) : (complete s).replies = s.replies := by
  cases hbusy : s.busy with
  | false => rw [complete_idle s hbusy]
  | true => rw [complete_busy s hbusy]; exact compute_replies s

theorem withQueues_eq_withPending (s t : State) (rest : List Action) (h : t.replies = s.replies) :
    t.withQueues rest s.replies = t.withPending rest := by
  rw [← h]
  rfl

theorem complete_withPending (s : State) (rest : List Action) :
    complete (s.withPending rest) = (complete s).withPending rest :=
  (complete_withQueues rest s.replies s).trans (withQueues_eq_withPending s _ rest (complete_replies s))

theorem issue_withPending (i : Instr) (s : State) (rest : List Action) :
    issue i (s.withPending rest) = (issue i s).withPending rest :=
  (issue_withQueues i rest s.replies s).trans (withQueues_eq_withPending s _ rest (issue_pending_replies i s).2)

theorem complete_engineOnly (s : State) : (complete s).engineOnly = complete s.engineOnly :=
  (complete_withQueues [] [] s).symm

/-! ### GEN and the three commands -/

/-- A command with a wait, in two steps: its CMD write and its completion (R92). -/
theorem run_command (i : Instr) (s t : State) (rest : List Action) (n : Nat) (ht : exec i s = .next t) :
    Host.Core.run core (n + 2) (s.withPending (cmd i :: .engine :: rest))
      = Host.Core.run core n ((complete t).withPending rest) := by
  have hissue : step (s.withPending (cmd i :: .engine :: rest)) = .next (t.withPending (.engine :: rest)) := by
    obtain rfl := (exec_eq_next_iff i s t).1 ht
    rw [step_of_action _ (cmd i) (.engine :: rest) rfl, ← issue_withPending, ← exec_eq_issue]
    exact regWrite_encode i _
  have hcomplete : step (t.withPending (.engine :: rest)) = .next ((complete t).withPending rest) := by
    rw [step_of_action _ .engine rest rfl, ← complete_withPending]
    rfl
  rw [run_succ _ _ _ hissue, run_succ _ _ _ hcomplete]

/-- Settles O50: each command passes its check on what the one before left, and the three completions write what the
completion of GEN writes. -/
theorem genEqualsThreeCommands : Obligations.GenEqualsThreeCommands := by
  unfold Obligations.GenEqualsThreeCommands
  intro s d rest hidle hkey hmax hd
  obtain ⟨t, hgen, -, -, hstatus, hdone⟩ := genCompletes s d hidle hkey hmax hd
  obtain ⟨t1, hhmac, -, -, hdone1, -⟩ := hmacCompletes s hidle hkey hmax
  obtain ⟨t2, hdt, -, -, hdone2, -⟩ := dtCompletes (complete t1) (by rw [hdone1]) (by rw [hdone1])
  obtain ⟨t3, hfmt, -, hdone3, -⟩ := fmtCompletes (complete t2) d (by rw [hdone2]) (by rw [hdone2]) hd
  have hsame : complete t3 = complete t := by
    rw [hdone3, hdone2, hdone1, hdone]
    rfl
  refine ⟨(complete t).withPending rest, ?_, ?_, rfl, hstatus⟩
  · rw [run_command _ s t rest 0 hgen, run_zero]
  · rw [run_command _ s t1 _ 4 hhmac, run_command _ _ t2 _ 2 hdt, run_command _ _ t3 _ 0 hfmt, hsame, run_zero]

/-! ### A busy engine completes -/

/-- An action of the host while busy leaves the engine as it was (R55, R59). -/
theorem step_of_host_while_busy (s : State) (x : Transaction) (rest : List Action) (hbusy : s.busy = true)
    (hpending : s.pending = .host x :: rest) :
    ∃ u, step s = .next u ∧ u.pending = rest ∧ u.engineOnly = s.engineOnly := by
  rw [step_of_action s _ rest hpending]
  cases x with
  | regRead a => exact ⟨_, rfl, rfl, rfl⟩
  | regWrite a v => exact ⟨_, regWrite_busy a v (s.withPending rest) hbusy, rfl, rfl⟩

/-- The actions of the host before the ENGINE's turn are used up one by one (R219). -/
theorem run_to_engineTurn (actions : List Action) (s : State) (hpending : s.pending = actions) (hbusy : s.busy = true)
    (hreset : .reset ∉ actions) :
    ∃ n, ∃ u : State, n ≤ actions.length ∧ Host.Core.run core n s = .next u ∧ u.engineOnly = s.engineOnly
      ∧ u.engineTurn := by
  induction actions generalizing s with
  | nil => exact ⟨0, s, Nat.zero_le _, run_zero s, rfl, .inl hpending⟩
  | cons x rest ih =>
    obtain ⟨hx, hrest⟩ := not_or.1 (List.mem_cons.not.1 hreset)
    cases x with
    | engine => exact ⟨0, s, Nat.zero_le _, run_zero s, rfl, .inr (by rw [hpending]; rfl)⟩
    | reset => exact absurd rfl hx
    | host x =>
      obtain ⟨v, hstep, hleft, hsame⟩ := step_of_host_while_busy s x rest hbusy hpending
      have hstill : v.busy = true := (congrArg State.busy hsame).trans hbusy
      obtain ⟨n, u, hn, hrun, hu, hturn⟩ := ih v hleft hstill hrest
      exact ⟨n + 1, u, Nat.succ_le_succ hn, (run_succ n s v hstep).trans hrun, hu.trans hsame, hturn⟩

/-- On the ENGINE's turn the step is the completion step (R89). -/
theorem step_of_engineTurn (s : State) (h : s.engineTurn) :
    ∃ t, step s = .next t ∧ t.engineOnly = (complete s).engineOnly := by
  obtain hnone | hhead := h
  · exact ⟨_, step_of_no_action s hnone, rfl⟩
  · obtain ⟨rest, hpending⟩ := List.head?_eq_some_iff.1 hhead
    refine ⟨_, step_of_action s _ rest hpending, ?_⟩
    rw [complete_engineOnly, complete_engineOnly]
    rfl

/-- Settles O57: the other actions leave the engine as it was, and the completion step ends the command. -/
theorem busyEngineCompletes : Obligations.BusyEngineCompletes := by
  unfold Obligations.BusyEngineCompletes
  intro s hbusy hreset
  obtain ⟨n, u, hn, hrun, hsame, hturn⟩ := run_to_engineTurn s.pending s rfl hbusy hreset
  obtain ⟨t, hstep, ht⟩ := step_of_engineTurn u hturn
  have hengine : t.engineOnly = (complete s).engineOnly := by
    rw [ht, complete_engineOnly, hsame, complete_engineOnly]
  have hdone : (complete s).done = true := by rw [complete_busy s hbusy]; rfl
  exact ⟨n, u, t, hn, hrun, hsame, hturn, hstep, hengine,
    (congrArg State.busy hengine).trans (complete_not_busy s), (congrArg State.done hengine).trans hdone⟩

end Sys2Proof.Machine
end
